-- ==== Sys2Proof/Word.lean ====
section
/-! DEFINITION. The word types of the GSVM core and the one bit helper of its tables. -/

namespace Sys2Proof

/-- One byte of a view, of a linear buffer or of an image. -/
abbrev Byte := BitVec 8

/-- A raw pixel value, zero-extended to 32 bits, or a canonical RGBA value (41_pixel_io.md R191, R222). -/
abbrev Word32 := BitVec 32

/-- A 64-bit descriptor word (30_encoding.md R91). -/
abbrev Desc := BitVec 64

/-- Rows of 32-bit texels, top row first, left texel first (10_state.md R36, 44_texture_cache.md R352). -/
abbrev Pixels := List (List Word32)

end Sys2Proof
end

