-- ==== Sys2Proof/Config.lean ====
section
/-! DEFINITION. The implementation parameters of 00_scope.md R10, the values the model names for reset, and the
free values: the opaque constants stand for what the spec leaves open, so that nothing can be proved of their values. -/

namespace Sys2Proof.Config

/-! ### The parameters of 00_scope.md R10, at the defaults the spec adopts (log entry 11) -/

/-- `VM_SIZE`, bytes of GSMEM: 4 MiB. -/
def vmSize : Nat := 4194304

/-- `VM_HEADROOM`: no byte past `VM_SIZE - 1` exists, and no operation reads or writes one (20_memory.md R63). -/
def vmHeadroom : Nat := 0

/-- `BLOCK_BYTES`. -/
def blockBytes : Nat := 256

/-- `COLUMN_BYTES`, four columns to a block (40_address_translator.md R131). -/
def columnBytes : Nat := 64

/-- `BLOCKS_PER_PAGE`. -/
def blocksPerPage : Nat := 32

/-- `PAGE_BYTES`. -/
def pageBytes : Nat := blocksPerPage * blockBytes

/-- `NBLOCKS`. -/
def nblocks : Nat := vmSize / blockBytes

/-- `BP_UNIT`, bytes per unit of a base pointer: a base pointer is a block index (30_encoding.md R100). -/
def bpUnit : Nat := blockBytes

/-- `BW_UNIT`, pixels per unit of a buffer width (30_encoding.md R100). -/
def bwUnit : Nat := 64

/-- `BP_BITS`. -/
abbrev bpBits : Nat := 14

/-- `BW_BITS`. -/
abbrev bwBits : Nat := 6

/-- `COORD_BITS`. -/
abbrev coordBits : Nat := 11

/-- `2^COORD_BITS`, what a rectangle may reach and not pass (43_swizzle_engine.md R284). -/
def coordLimit : Nat := 2 ^ coordBits

/-- `CLUT_ENTRIES`, 16-bit entries of `CLUT`. -/
abbrev clutEntries : Nat := 512

/-- Entries in one of the two banks of `CLUT` (10_state.md R28, 42_color_clut.md R257). -/
abbrev clutBank : Nat := clutEntries / 2

/-- `CLUT32_ENTRIES`. -/
abbrev clut32Entries : Nat := 256

/-- `RT_KEEP` (44_texture_cache.md R357). -/
def rtKeep : Nat := 3

/-- `HASH_SKIP_N`: the optional fast path is off (44_texture_cache.md R360; log entry 14). -/
def hashSkipN : Nat := 0

/-- FREE VALUE. `HASH_STABLE_N`, open; nothing reads it while `HASH_SKIP_N` is 0 (44_texture_cache.md R360; log
entry 14). -/
opaque hashStableN : Nat

/-- FREE VALUE. `VEC_ALIGN`, open; it has no effect on results, so nothing reads it (43_swizzle_engine.md R300; log
entry 16). -/
opaque vecAlign : Nat

/-- `PARALLEL_UNSWIZZLE`; it has no effect on results, so nothing reads it (43_swizzle_engine.md R298; log entry 16). -/
def parallelUnswizzle : Bool := false

/-- The two release-mode fallbacks of a contract violation that the source names (60_exceptions.md R401). -/
inductive OobPolicy where
  | clamp | noOp
  deriving DecidableEq, Repr

/-- `OOB_POLICY`: the no-op, reported in STATUS. `State.raise` is this fallback; clamping is not taken
(60_exceptions.md R401, R405). -/
def oobPolicy : OobPolicy := .noOp

/-- `CLUT24_AS_32` (30_encoding.md R97, default false; log entry 11). -/
def clut24As32 : Bool := false

/-- The largest legal `TW` and `TH` (30_encoding.md R101). -/
def maxLog2 : Nat := 10

/-- FREE VALUE. What is taken from `AGE_MAX`, an open parameter of at least 1 (00_scope.md R10; log entry 10). -/
opaque ageMaxLess1 : Nat

/-- `AGE_MAX`. -/
def ageMax : Nat := ageMaxLess1 + 1

/-- FREE VALUE. What is taken from `MAX_ENTRIES`, an open parameter of at least 1 (00_scope.md R10; log entry 10). -/
opaque maxEntriesLess1 : Nat

/-- `MAX_ENTRIES`. -/
def maxEntries : Nat := maxEntriesLess1 + 1

/-- DESIGN CHOICE, unsafe. What a byte of GSMEM that nobody has written reads as: the spec leaves GSMEM unspecified after
reset (10_state.md R50; log entry 4). -/
def memReset : BitVec 8 := 0

/-- DESIGN CHOICE, unsafe. Every entry of `CLUT` after reset; the spec leaves it unspecified (10_state.md R50; log entry 5). -/
def clutReset : BitVec 16 := 0

/-- DESIGN CHOICE, unsafe. Every entry of `CLUT32` after reset; the spec leaves it unspecified (10_state.md R50; log
entry 5). -/
def clut32Reset : BitVec 32 := 0

/-- FREE VALUE. `CLUT32[i]` as the `RESTORE` that draws free value `n` leaves it (45_host_ops.md R389; log entry 6). -/
opaque clut32Restored : (n i : Nat) → BitVec 32

/-- FREE VALUE. The handle proposed for the new sub-surface that draws free value `n`
(44_texture_cache.md R350, 93_implementation_defined.md U27; log entry 7). -/
opaque handleSeed : (n : Nat) → Nat

/-- FREE VALUE. A texel of a remap that no one texel of the surface supplies (44_texture_cache.md R351; log entry 8). -/
opaque remapTexel : (n x y : Nat) → BitVec 32

/-- FREE VALUE. A texel of the backend's surface `h` that the host has not told (44_texture_cache.md R352; log entry 9). -/
opaque surfTexel : (n h x y : Nat) → BitVec 32

/-- FREE VALUE. Whether `RESAMPLE` is a filter and not the default, nearest (44_texture_cache.md R353; log entry 12). -/
opaque resampleFiltered : Bool

/-- FREE VALUE. The texel `(x, y)` of a filtered resample of `p` (44_texture_cache.md R353; log entry 12). -/
opaque filterTexel : (p : List (List (BitVec 32))) → (w h rw rh x y : Nat) → BitVec 32

end Sys2Proof.Config

namespace Sys2Proof

/-- A base pointer, `BP_BITS` bits (30_encoding.md R100). -/
abbrev BasePtr := BitVec Config.bpBits

/-- A buffer width, `BW_BITS` bits (30_encoding.md R100). -/
abbrev BufWidth := BitVec Config.bwBits

/-- A coordinate of a transfer, `COORD_BITS` bits (00_scope.md R10). -/
abbrev Coord := BitVec Config.coordBits

/-- A coordinate operand, one bit wider: it may reach `2^COORD_BITS` (30_encoding.md R110, 40_address_translator.md R149;
log entry 19). -/
abbrev CoordArg := BitVec (Config.coordBits + 1)

end Sys2Proof
end

