-- ==== Sys2Proof/Syntax.lean ====
section
/-! DEFINITION. The syntax of the GSVM core: the thirteen formats, the operands of a request, the request itself,
and one constructor of `Instr` for each row of spec/opcode_table.json. -/

namespace Sys2Proof

/-- A pixel storage mode, one of the thirteen formats (10_state.md R26, 30_encoding.md R95). -/
inductive Format where
  | ct32 | ct24 | ct16 | ct16s | t8 | t4 | t8h | t4hl | t4hh | z32 | z24 | z16 | z16s
  deriving DecidableEq, Repr

/-- The `rect` operand: four naturals of `COORD_BITS + 1` bits (30_encoding.md R110). -/
structure RectArg where
  left : CoordArg
  top : CoordArg
  right : CoordArg
  bottom : CoordArg
  deriving DecidableEq, Repr

/-- XFERD, the transfer descriptor: four 64-bit words (30_encoding.md R104). -/
structure Xferd where
  bitblt : Desc
  trxpos : Desc
  trxreg : Desc
  trxdir : Desc
  deriving DecidableEq, Repr

/-- The operands a request can carry, as named fields (30_encoding.md R91), each of the width its rule gives, or its row of
spec/opcode_table.json: 32 bits for `v`, `idx`, `pitch` and `length`.
An operation takes the fields of its row and leaves the others alone (log entry 1). -/
structure Operands where
  x : CoordArg
  y : CoordArg
  bp : BasePtr
  bw : BufWidth
  v : Word32
  idx : Word32
  psm : BitVec 6
  resume : Bool
  mode : BitVec 2
  pitch : Word32
  length : Word32
  handle : Nat
  isRt : Bool
  rect : RectArg
  texd : Desc
  alphad : Desc
  clutd : Desc
  clampd : Desc
  keyTexd : Desc
  keyClampd : Desc
  xferd : Xferd
  src : List Byte
  image : List Byte
  deriving DecidableEq, Repr

/-- Every operand zero or empty. -/
def Operands.zero : Operands where
  x := 0
  y := 0
  bp := 0
  bw := 0
  v := 0
  idx := 0
  psm := 0
  resume := false
  mode := 0
  pitch := 0
  length := 0
  handle := 0
  isRt := false
  rect := ⟨0, 0, 0, 0⟩
  texd := 0
  alphad := 0
  clutd := 0
  clampd := 0
  keyTexd := 0
  keyClampd := 0
  xferd := ⟨0, 0, 0, 0⟩
  src := []
  image := []

/-- A request at the port: the 16-bit header, the operands (30_encoding.md R90, R91), and what the backend has drawn
since the last request, the host-supplied SURF as plain data (44_texture_cache.md R352; log entry 9). -/
structure Request where
  header : BitVec 16
  ops : Operands
  surf : List (Nat × Pixels)
  deriving DecidableEq, Repr

/-- The operations of the core, one constructor for each row of spec/opcode_table.json (30_encoding.md R93).
`src` is the linear buffer of `SWZIN`; its `length` operand is the number of its bytes (43_swizzle_engine.md R290). -/
inductive Instr where
  /-- `NOP`, header `0x0000`. -/
  | nop
  /-- `VMRD8`, header `0x0800`. -/
  | vmrd8 (idx : Word32)
  /-- `VMRD16`, header `0x0900`. -/
  | vmrd16 (idx : Word32)
  /-- `VMRD32`, header `0x0A00`. -/
  | vmrd32 (idx : Word32)
  /-- `VMWR8`, header `0x0C00`. -/
  | vmwr8 (idx v : Word32)
  /-- `VMWR16`, header `0x0D00`. -/
  | vmwr16 (idx v : Word32)
  /-- `VMWR32`, header `0x0E00`. -/
  | vmwr32 (idx v : Word32)
  /-- `EXP16`, header `0x2000`. -/
  | exp16 (v : Word32) (alphad : Desc)
  /-- `EXP24`, header `0x2100`. -/
  | exp24 (v : Word32) (alphad : Desc)
  /-- `CLUTWR`, header `0x2800`. -/
  | clutwr (texd clutd : Desc)
  /-- `CLUTRD32`, header `0x2900`. -/
  | clutrd32 (texd alphad : Desc)
  /-- `CLUTINV`, header `0x2A00`. -/
  | clutinv
  /-- `XFERMM`, header `0x3200`. -/
  | xfermm (xferd : Xferd)
  /-- `TCFETCH`, header `0x4000`. -/
  | tcfetch (texd alphad clampd : Desc)
  /-- `TCINVAL`, header `0x4100`. -/
  | tcinval (bp : BasePtr) (bw : BufWidth) (psm : BitVec 6) (rect : RectArg)
  /-- `TCALIAS`, header `0x4200`. -/
  | tcalias (keyTexd keyClampd texd : Desc)
  /-- `TCAGE`, header `0x4300`. -/
  | tcage
  /-- `TCDROP`, header `0x4400`. -/
  | tcdrop (keyTexd keyClampd : Desc) (isRt : Bool)
  /-- `TCPURGE`, header `0x4500`. -/
  | tcpurge
  /-- `TCRT`, header `0x4600`. -/
  | tcrt (texd : Desc) (handle : Nat)
  /-- `SAVE`, header `0x5000`. -/
  | save
  /-- `RESTORE`, header `0x5100`. -/
  | restore (image : List Byte)
  /-- `PADDR.CT32`, header `0x0100`. -/
  | paddrCt32 (x y : CoordArg) (bp : BasePtr) (bw : BufWidth)
  /-- `PADDR.CT24`, header `0x0101`. -/
  | paddrCt24 (x y : CoordArg) (bp : BasePtr) (bw : BufWidth)
  /-- `PADDR.CT16`, header `0x0102`. -/
  | paddrCt16 (x y : CoordArg) (bp : BasePtr) (bw : BufWidth)
  /-- `PADDR.CT16S`, header `0x010A`. -/
  | paddrCt16s (x y : CoordArg) (bp : BasePtr) (bw : BufWidth)
  /-- `PADDR.T8`, header `0x0113`. -/
  | paddrT8 (x y : CoordArg) (bp : BasePtr) (bw : BufWidth)
  /-- `PADDR.T4`, header `0x0114`. -/
  | paddrT4 (x y : CoordArg) (bp : BasePtr) (bw : BufWidth)
  /-- `PADDR.T8H`, header `0x011B`. -/
  | paddrT8h (x y : CoordArg) (bp : BasePtr) (bw : BufWidth)
  /-- `PADDR.T4HL`, header `0x0124`. -/
  | paddrT4hl (x y : CoordArg) (bp : BasePtr) (bw : BufWidth)
  /-- `PADDR.T4HH`, header `0x012C`. -/
  | paddrT4hh (x y : CoordArg) (bp : BasePtr) (bw : BufWidth)
  /-- `PADDR.Z32`, header `0x0130`. -/
  | paddrZ32 (x y : CoordArg) (bp : BasePtr) (bw : BufWidth)
  /-- `PADDR.Z24`, header `0x0131`. -/
  | paddrZ24 (x y : CoordArg) (bp : BasePtr) (bw : BufWidth)
  /-- `PADDR.Z16`, header `0x0132`. -/
  | paddrZ16 (x y : CoordArg) (bp : BasePtr) (bw : BufWidth)
  /-- `PADDR.Z16S`, header `0x013A`. -/
  | paddrZ16s (x y : CoordArg) (bp : BasePtr) (bw : BufWidth)
  /-- `BADDR.CT32`, header `0x0200`. -/
  | baddrCt32 (x y : CoordArg) (bp : BasePtr) (bw : BufWidth)
  /-- `BADDR.CT24`, header `0x0201`. -/
  | baddrCt24 (x y : CoordArg) (bp : BasePtr) (bw : BufWidth)
  /-- `BADDR.CT16`, header `0x0202`. -/
  | baddrCt16 (x y : CoordArg) (bp : BasePtr) (bw : BufWidth)
  /-- `BADDR.CT16S`, header `0x020A`. -/
  | baddrCt16s (x y : CoordArg) (bp : BasePtr) (bw : BufWidth)
  /-- `BADDR.T8`, header `0x0213`. -/
  | baddrT8 (x y : CoordArg) (bp : BasePtr) (bw : BufWidth)
  /-- `BADDR.T4`, header `0x0214`. -/
  | baddrT4 (x y : CoordArg) (bp : BasePtr) (bw : BufWidth)
  /-- `BADDR.T8H`, header `0x021B`. -/
  | baddrT8h (x y : CoordArg) (bp : BasePtr) (bw : BufWidth)
  /-- `BADDR.T4HL`, header `0x0224`. -/
  | baddrT4hl (x y : CoordArg) (bp : BasePtr) (bw : BufWidth)
  /-- `BADDR.T4HH`, header `0x022C`. -/
  | baddrT4hh (x y : CoordArg) (bp : BasePtr) (bw : BufWidth)
  /-- `BADDR.Z32`, header `0x0230`. -/
  | baddrZ32 (x y : CoordArg) (bp : BasePtr) (bw : BufWidth)
  /-- `BADDR.Z24`, header `0x0231`. -/
  | baddrZ24 (x y : CoordArg) (bp : BasePtr) (bw : BufWidth)
  /-- `BADDR.Z16`, header `0x0232`. -/
  | baddrZ16 (x y : CoordArg) (bp : BasePtr) (bw : BufWidth)
  /-- `BADDR.Z16S`, header `0x023A`. -/
  | baddrZ16s (x y : CoordArg) (bp : BasePtr) (bw : BufWidth)
  /-- `PGADDR.CT32`, header `0x0300`. -/
  | pgaddrCt32 (x y : CoordArg) (bp : BasePtr) (bw : BufWidth)
  /-- `PGADDR.CT24`, header `0x0301`. -/
  | pgaddrCt24 (x y : CoordArg) (bp : BasePtr) (bw : BufWidth)
  /-- `PGADDR.CT16`, header `0x0302`. -/
  | pgaddrCt16 (x y : CoordArg) (bp : BasePtr) (bw : BufWidth)
  /-- `PGADDR.CT16S`, header `0x030A`. -/
  | pgaddrCt16s (x y : CoordArg) (bp : BasePtr) (bw : BufWidth)
  /-- `PGADDR.T8`, header `0x0313`. -/
  | pgaddrT8 (x y : CoordArg) (bp : BasePtr) (bw : BufWidth)
  /-- `PGADDR.T4`, header `0x0314`. -/
  | pgaddrT4 (x y : CoordArg) (bp : BasePtr) (bw : BufWidth)
  /-- `PGADDR.T8H`, header `0x031B`. -/
  | pgaddrT8h (x y : CoordArg) (bp : BasePtr) (bw : BufWidth)
  /-- `PGADDR.T4HL`, header `0x0324`. -/
  | pgaddrT4hl (x y : CoordArg) (bp : BasePtr) (bw : BufWidth)
  /-- `PGADDR.T4HH`, header `0x032C`. -/
  | pgaddrT4hh (x y : CoordArg) (bp : BasePtr) (bw : BufWidth)
  /-- `PGADDR.Z32`, header `0x0330`. -/
  | pgaddrZ32 (x y : CoordArg) (bp : BasePtr) (bw : BufWidth)
  /-- `PGADDR.Z24`, header `0x0331`. -/
  | pgaddrZ24 (x y : CoordArg) (bp : BasePtr) (bw : BufWidth)
  /-- `PGADDR.Z16`, header `0x0332`. -/
  | pgaddrZ16 (x y : CoordArg) (bp : BasePtr) (bw : BufWidth)
  /-- `PGADDR.Z16S`, header `0x033A`. -/
  | pgaddrZ16s (x y : CoordArg) (bp : BasePtr) (bw : BufWidth)
  /-- `RDPIX.CT32`, header `0x1000`. -/
  | rdpixCt32 (x y : CoordArg) (bp : BasePtr) (bw : BufWidth)
  /-- `RDPIX.CT24`, header `0x1001`. -/
  | rdpixCt24 (x y : CoordArg) (bp : BasePtr) (bw : BufWidth)
  /-- `RDPIX.CT16`, header `0x1002`. -/
  | rdpixCt16 (x y : CoordArg) (bp : BasePtr) (bw : BufWidth)
  /-- `RDPIX.CT16S`, header `0x100A`. -/
  | rdpixCt16s (x y : CoordArg) (bp : BasePtr) (bw : BufWidth)
  /-- `RDPIX.T8`, header `0x1013`. -/
  | rdpixT8 (x y : CoordArg) (bp : BasePtr) (bw : BufWidth)
  /-- `RDPIX.T4`, header `0x1014`. -/
  | rdpixT4 (x y : CoordArg) (bp : BasePtr) (bw : BufWidth)
  /-- `RDPIX.T8H`, header `0x101B`. -/
  | rdpixT8h (x y : CoordArg) (bp : BasePtr) (bw : BufWidth)
  /-- `RDPIX.T4HL`, header `0x1024`. -/
  | rdpixT4hl (x y : CoordArg) (bp : BasePtr) (bw : BufWidth)
  /-- `RDPIX.T4HH`, header `0x102C`. -/
  | rdpixT4hh (x y : CoordArg) (bp : BasePtr) (bw : BufWidth)
  /-- `RDPIX.Z32`, header `0x1030`. -/
  | rdpixZ32 (x y : CoordArg) (bp : BasePtr) (bw : BufWidth)
  /-- `RDPIX.Z24`, header `0x1031`. -/
  | rdpixZ24 (x y : CoordArg) (bp : BasePtr) (bw : BufWidth)
  /-- `RDPIX.Z16`, header `0x1032`. -/
  | rdpixZ16 (x y : CoordArg) (bp : BasePtr) (bw : BufWidth)
  /-- `RDPIX.Z16S`, header `0x103A`. -/
  | rdpixZ16s (x y : CoordArg) (bp : BasePtr) (bw : BufWidth)
  /-- `WRPIX.CT32`, header `0x1100`. -/
  | wrpixCt32 (x y : CoordArg) (bp : BasePtr) (bw : BufWidth) (v : Word32)
  /-- `WRPIX.CT24`, header `0x1101`. -/
  | wrpixCt24 (x y : CoordArg) (bp : BasePtr) (bw : BufWidth) (v : Word32)
  /-- `WRPIX.CT16`, header `0x1102`. -/
  | wrpixCt16 (x y : CoordArg) (bp : BasePtr) (bw : BufWidth) (v : Word32)
  /-- `WRPIX.CT16S`, header `0x110A`. -/
  | wrpixCt16s (x y : CoordArg) (bp : BasePtr) (bw : BufWidth) (v : Word32)
  /-- `WRPIX.T8`, header `0x1113`. -/
  | wrpixT8 (x y : CoordArg) (bp : BasePtr) (bw : BufWidth) (v : Word32)
  /-- `WRPIX.T4`, header `0x1114`. -/
  | wrpixT4 (x y : CoordArg) (bp : BasePtr) (bw : BufWidth) (v : Word32)
  /-- `WRPIX.T8H`, header `0x111B`. -/
  | wrpixT8h (x y : CoordArg) (bp : BasePtr) (bw : BufWidth) (v : Word32)
  /-- `WRPIX.T4HL`, header `0x1124`. -/
  | wrpixT4hl (x y : CoordArg) (bp : BasePtr) (bw : BufWidth) (v : Word32)
  /-- `WRPIX.T4HH`, header `0x112C`. -/
  | wrpixT4hh (x y : CoordArg) (bp : BasePtr) (bw : BufWidth) (v : Word32)
  /-- `WRPIX.Z32`, header `0x1130`. -/
  | wrpixZ32 (x y : CoordArg) (bp : BasePtr) (bw : BufWidth) (v : Word32)
  /-- `WRPIX.Z24`, header `0x1131`. -/
  | wrpixZ24 (x y : CoordArg) (bp : BasePtr) (bw : BufWidth) (v : Word32)
  /-- `WRPIX.Z16`, header `0x1132`. -/
  | wrpixZ16 (x y : CoordArg) (bp : BasePtr) (bw : BufWidth) (v : Word32)
  /-- `WRPIX.Z16S`, header `0x113A`. -/
  | wrpixZ16s (x y : CoordArg) (bp : BasePtr) (bw : BufWidth) (v : Word32)
  /-- `RDTEX.CT32`, header `0x1200`. -/
  | rdtexCt32 (x y : CoordArg) (bp : BasePtr) (bw : BufWidth) (alphad : Desc)
  /-- `RDTEX.CT24`, header `0x1201`. -/
  | rdtexCt24 (x y : CoordArg) (bp : BasePtr) (bw : BufWidth) (alphad : Desc)
  /-- `RDTEX.CT16`, header `0x1202`. -/
  | rdtexCt16 (x y : CoordArg) (bp : BasePtr) (bw : BufWidth) (alphad : Desc)
  /-- `RDTEX.CT16S`, header `0x120A`. -/
  | rdtexCt16s (x y : CoordArg) (bp : BasePtr) (bw : BufWidth) (alphad : Desc)
  /-- `RDTEX.T8`, header `0x1213`. -/
  | rdtexT8 (x y : CoordArg) (bp : BasePtr) (bw : BufWidth) (alphad : Desc)
  /-- `RDTEX.T4`, header `0x1214`. -/
  | rdtexT4 (x y : CoordArg) (bp : BasePtr) (bw : BufWidth) (alphad : Desc)
  /-- `RDTEX.T8H`, header `0x121B`. -/
  | rdtexT8h (x y : CoordArg) (bp : BasePtr) (bw : BufWidth) (alphad : Desc)
  /-- `RDTEX.T4HL`, header `0x1224`. -/
  | rdtexT4hl (x y : CoordArg) (bp : BasePtr) (bw : BufWidth) (alphad : Desc)
  /-- `RDTEX.T4HH`, header `0x122C`. -/
  | rdtexT4hh (x y : CoordArg) (bp : BasePtr) (bw : BufWidth) (alphad : Desc)
  /-- `RDTEX.Z32`, header `0x1230`. -/
  | rdtexZ32 (x y : CoordArg) (bp : BasePtr) (bw : BufWidth) (alphad : Desc)
  /-- `RDTEX.Z24`, header `0x1231`. -/
  | rdtexZ24 (x y : CoordArg) (bp : BasePtr) (bw : BufWidth) (alphad : Desc)
  /-- `RDTEX.Z16`, header `0x1232`. -/
  | rdtexZ16 (x y : CoordArg) (bp : BasePtr) (bw : BufWidth) (alphad : Desc)
  /-- `RDTEX.Z16S`, header `0x123A`. -/
  | rdtexZ16s (x y : CoordArg) (bp : BasePtr) (bw : BufWidth) (alphad : Desc)
  /-- `SWZIN.CT32`, header `0x3000`. -/
  | swzinCt32 (xferd : Xferd) (resume : Bool) (src : List Byte)
  /-- `SWZIN.CT24`, header `0x3001`. -/
  | swzinCt24 (xferd : Xferd) (resume : Bool) (src : List Byte)
  /-- `SWZIN.CT16`, header `0x3002`. -/
  | swzinCt16 (xferd : Xferd) (resume : Bool) (src : List Byte)
  /-- `SWZIN.CT16S`, header `0x300A`. -/
  | swzinCt16s (xferd : Xferd) (resume : Bool) (src : List Byte)
  /-- `SWZIN.T8`, header `0x3013`. -/
  | swzinT8 (xferd : Xferd) (resume : Bool) (src : List Byte)
  /-- `SWZIN.T4`, header `0x3014`. -/
  | swzinT4 (xferd : Xferd) (resume : Bool) (src : List Byte)
  /-- `SWZIN.T8H`, header `0x301B`. -/
  | swzinT8h (xferd : Xferd) (resume : Bool) (src : List Byte)
  /-- `SWZIN.T4HL`, header `0x3024`. -/
  | swzinT4hl (xferd : Xferd) (resume : Bool) (src : List Byte)
  /-- `SWZIN.T4HH`, header `0x302C`. -/
  | swzinT4hh (xferd : Xferd) (resume : Bool) (src : List Byte)
  /-- `SWZIN.Z32`, header `0x3030`. -/
  | swzinZ32 (xferd : Xferd) (resume : Bool) (src : List Byte)
  /-- `SWZIN.Z24`, header `0x3031`. -/
  | swzinZ24 (xferd : Xferd) (resume : Bool) (src : List Byte)
  /-- `SWZIN.Z16`, header `0x3032`. -/
  | swzinZ16 (xferd : Xferd) (resume : Bool) (src : List Byte)
  /-- `SWZIN.Z16S`, header `0x303A`. -/
  | swzinZ16s (xferd : Xferd) (resume : Bool) (src : List Byte)
  /-- `UNSWZ.CT32`, header `0x3100`. -/
  | unswzCt32 (rect : RectArg) (bp : BasePtr) (bw : BufWidth) (mode : BitVec 2) (alphad : Desc) (pitch : Word32)
  /-- `UNSWZ.CT24`, header `0x3101`. -/
  | unswzCt24 (rect : RectArg) (bp : BasePtr) (bw : BufWidth) (mode : BitVec 2) (alphad : Desc) (pitch : Word32)
  /-- `UNSWZ.CT16`, header `0x3102`. -/
  | unswzCt16 (rect : RectArg) (bp : BasePtr) (bw : BufWidth) (mode : BitVec 2) (alphad : Desc) (pitch : Word32)
  /-- `UNSWZ.CT16S`, header `0x310A`. -/
  | unswzCt16s (rect : RectArg) (bp : BasePtr) (bw : BufWidth) (mode : BitVec 2) (alphad : Desc) (pitch : Word32)
  /-- `UNSWZ.T8`, header `0x3113`. -/
  | unswzT8 (rect : RectArg) (bp : BasePtr) (bw : BufWidth) (mode : BitVec 2) (alphad : Desc) (pitch : Word32)
  /-- `UNSWZ.T4`, header `0x3114`. -/
  | unswzT4 (rect : RectArg) (bp : BasePtr) (bw : BufWidth) (mode : BitVec 2) (alphad : Desc) (pitch : Word32)
  /-- `UNSWZ.T8H`, header `0x311B`. -/
  | unswzT8h (rect : RectArg) (bp : BasePtr) (bw : BufWidth) (mode : BitVec 2) (alphad : Desc) (pitch : Word32)
  /-- `UNSWZ.T4HL`, header `0x3124`. -/
  | unswzT4hl (rect : RectArg) (bp : BasePtr) (bw : BufWidth) (mode : BitVec 2) (alphad : Desc) (pitch : Word32)
  /-- `UNSWZ.T4HH`, header `0x312C`. -/
  | unswzT4hh (rect : RectArg) (bp : BasePtr) (bw : BufWidth) (mode : BitVec 2) (alphad : Desc) (pitch : Word32)
  /-- `UNSWZ.Z32`, header `0x3130`. -/
  | unswzZ32 (rect : RectArg) (bp : BasePtr) (bw : BufWidth) (mode : BitVec 2) (alphad : Desc) (pitch : Word32)
  /-- `UNSWZ.Z24`, header `0x3131`. -/
  | unswzZ24 (rect : RectArg) (bp : BasePtr) (bw : BufWidth) (mode : BitVec 2) (alphad : Desc) (pitch : Word32)
  /-- `UNSWZ.Z16`, header `0x3132`. -/
  | unswzZ16 (rect : RectArg) (bp : BasePtr) (bw : BufWidth) (mode : BitVec 2) (alphad : Desc) (pitch : Word32)
  /-- `UNSWZ.Z16S`, header `0x313A`. -/
  | unswzZ16s (rect : RectArg) (bp : BasePtr) (bw : BufWidth) (mode : BitVec 2) (alphad : Desc) (pitch : Word32)
  deriving DecidableEq, Repr

end Sys2Proof
end

