-- ==== Sys2Proof/WellFormed.lean ====
section
/-! DEFINITION. Which instructions a request can hold: the one bound that the operand types do not carry already. -/

namespace Sys2Proof

/-- The bytes of a linear buffer are counted by the 32-bit operand `length` (43_swizzle_engine.md R290,
spec/opcode_table.json). -/
def srcFits (src : List Byte) : Bool := src.length < 2 ^ 32

/-- Well-formed: every operand has a value its field can carry. Every other operand is bounded by its type. -/
def Instr.wf : Instr → Bool
  | .nop => true
  | .vmrd8 _ => true
  | .vmrd16 _ => true
  | .vmrd32 _ => true
  | .vmwr8 _ _ => true
  | .vmwr16 _ _ => true
  | .vmwr32 _ _ => true
  | .exp16 _ _ => true
  | .exp24 _ _ => true
  | .clutwr _ _ => true
  | .clutrd32 _ _ => true
  | .clutinv => true
  | .xfermm _ => true
  | .tcfetch _ _ _ => true
  | .tcinval _ _ _ _ => true
  | .tcalias _ _ _ => true
  | .tcage => true
  | .tcdrop _ _ _ => true
  | .tcpurge => true
  | .tcrt _ _ => true
  | .save => true
  | .restore _ => true
  | .paddrCt32 _ _ _ _ => true
  | .paddrCt24 _ _ _ _ => true
  | .paddrCt16 _ _ _ _ => true
  | .paddrCt16s _ _ _ _ => true
  | .paddrT8 _ _ _ _ => true
  | .paddrT4 _ _ _ _ => true
  | .paddrT8h _ _ _ _ => true
  | .paddrT4hl _ _ _ _ => true
  | .paddrT4hh _ _ _ _ => true
  | .paddrZ32 _ _ _ _ => true
  | .paddrZ24 _ _ _ _ => true
  | .paddrZ16 _ _ _ _ => true
  | .paddrZ16s _ _ _ _ => true
  | .baddrCt32 _ _ _ _ => true
  | .baddrCt24 _ _ _ _ => true
  | .baddrCt16 _ _ _ _ => true
  | .baddrCt16s _ _ _ _ => true
  | .baddrT8 _ _ _ _ => true
  | .baddrT4 _ _ _ _ => true
  | .baddrT8h _ _ _ _ => true
  | .baddrT4hl _ _ _ _ => true
  | .baddrT4hh _ _ _ _ => true
  | .baddrZ32 _ _ _ _ => true
  | .baddrZ24 _ _ _ _ => true
  | .baddrZ16 _ _ _ _ => true
  | .baddrZ16s _ _ _ _ => true
  | .pgaddrCt32 _ _ _ _ => true
  | .pgaddrCt24 _ _ _ _ => true
  | .pgaddrCt16 _ _ _ _ => true
  | .pgaddrCt16s _ _ _ _ => true
  | .pgaddrT8 _ _ _ _ => true
  | .pgaddrT4 _ _ _ _ => true
  | .pgaddrT8h _ _ _ _ => true
  | .pgaddrT4hl _ _ _ _ => true
  | .pgaddrT4hh _ _ _ _ => true
  | .pgaddrZ32 _ _ _ _ => true
  | .pgaddrZ24 _ _ _ _ => true
  | .pgaddrZ16 _ _ _ _ => true
  | .pgaddrZ16s _ _ _ _ => true
  | .rdpixCt32 _ _ _ _ => true
  | .rdpixCt24 _ _ _ _ => true
  | .rdpixCt16 _ _ _ _ => true
  | .rdpixCt16s _ _ _ _ => true
  | .rdpixT8 _ _ _ _ => true
  | .rdpixT4 _ _ _ _ => true
  | .rdpixT8h _ _ _ _ => true
  | .rdpixT4hl _ _ _ _ => true
  | .rdpixT4hh _ _ _ _ => true
  | .rdpixZ32 _ _ _ _ => true
  | .rdpixZ24 _ _ _ _ => true
  | .rdpixZ16 _ _ _ _ => true
  | .rdpixZ16s _ _ _ _ => true
  | .wrpixCt32 _ _ _ _ _ => true
  | .wrpixCt24 _ _ _ _ _ => true
  | .wrpixCt16 _ _ _ _ _ => true
  | .wrpixCt16s _ _ _ _ _ => true
  | .wrpixT8 _ _ _ _ _ => true
  | .wrpixT4 _ _ _ _ _ => true
  | .wrpixT8h _ _ _ _ _ => true
  | .wrpixT4hl _ _ _ _ _ => true
  | .wrpixT4hh _ _ _ _ _ => true
  | .wrpixZ32 _ _ _ _ _ => true
  | .wrpixZ24 _ _ _ _ _ => true
  | .wrpixZ16 _ _ _ _ _ => true
  | .wrpixZ16s _ _ _ _ _ => true
  | .rdtexCt32 _ _ _ _ _ => true
  | .rdtexCt24 _ _ _ _ _ => true
  | .rdtexCt16 _ _ _ _ _ => true
  | .rdtexCt16s _ _ _ _ _ => true
  | .rdtexT8 _ _ _ _ _ => true
  | .rdtexT4 _ _ _ _ _ => true
  | .rdtexT8h _ _ _ _ _ => true
  | .rdtexT4hl _ _ _ _ _ => true
  | .rdtexT4hh _ _ _ _ _ => true
  | .rdtexZ32 _ _ _ _ _ => true
  | .rdtexZ24 _ _ _ _ _ => true
  | .rdtexZ16 _ _ _ _ _ => true
  | .rdtexZ16s _ _ _ _ _ => true
  | .swzinCt32 _ _ src => srcFits src
  | .swzinCt24 _ _ src => srcFits src
  | .swzinCt16 _ _ src => srcFits src
  | .swzinCt16s _ _ src => srcFits src
  | .swzinT8 _ _ src => srcFits src
  | .swzinT4 _ _ src => srcFits src
  | .swzinT8h _ _ src => srcFits src
  | .swzinT4hl _ _ src => srcFits src
  | .swzinT4hh _ _ src => srcFits src
  | .swzinZ32 _ _ src => srcFits src
  | .swzinZ24 _ _ src => srcFits src
  | .swzinZ16 _ _ src => srcFits src
  | .swzinZ16s _ _ src => srcFits src
  | .unswzCt32 _ _ _ _ _ _ => true
  | .unswzCt24 _ _ _ _ _ _ => true
  | .unswzCt16 _ _ _ _ _ _ => true
  | .unswzCt16s _ _ _ _ _ _ => true
  | .unswzT8 _ _ _ _ _ _ => true
  | .unswzT4 _ _ _ _ _ _ => true
  | .unswzT8h _ _ _ _ _ _ => true
  | .unswzT4hl _ _ _ _ _ _ => true
  | .unswzT4hh _ _ _ _ _ _ => true
  | .unswzZ32 _ _ _ _ _ _ => true
  | .unswzZ24 _ _ _ _ _ _ => true
  | .unswzZ16 _ _ _ _ _ _ => true
  | .unswzZ16s _ _ _ _ _ _ => true

end Sys2Proof
end

