-- ==== Sys2Proof/Decode.lean ====
section
/-! DEFINITION. The request decoder (30_encoding.md R92 to R95), total on any header and operands and rejecting by name;
after it the encoder, written from the same operation and format codes. -/

namespace Sys2Proof

/-- Why a header is refused (30_encoding.md R92). -/
inductive DecodeError where
  /-- `op` is not in the operation map: `BAD_OP`. -/
  | reservedOp
  /-- `REQ[7:6]` is not zero: `BAD_OP`. -/
  | headerBits
  /-- `psm` is not zero on an operation without a format: `BAD_OP`. -/
  | strayFormat
  /-- `psm` is not one of the thirteen codes: `BAD_PSM`. -/
  | badFormat
  deriving DecidableEq, Repr

/-- The 6-bit PSM code of a format (30_encoding.md R95). -/
def Format.code : Format → BitVec 6
  | .ct32 => 0x00
  | .ct24 => 0x01
  | .ct16 => 0x02
  | .ct16s => 0x0A
  | .t8 => 0x13
  | .t4 => 0x14
  | .t8h => 0x1B
  | .t4hl => 0x24
  | .t4hh => 0x2C
  | .z32 => 0x30
  | .z24 => 0x31
  | .z16 => 0x32
  | .z16s => 0x3A

/-- The format a PSM code names, if it is one of the thirteen (30_encoding.md R95). -/
def formatOf (psm : BitVec 6) : Option Format :=
  match psm.toNat with
  | 0x00 => some .ct32
  | 0x01 => some .ct24
  | 0x02 => some .ct16
  | 0x0A => some .ct16s
  | 0x13 => some .t8
  | 0x14 => some .t4
  | 0x1B => some .t8h
  | 0x24 => some .t4hl
  | 0x2C => some .t4hh
  | 0x30 => some .z32
  | 0x31 => some .z24
  | 0x32 => some .z16
  | 0x3A => some .z16s
  | _ => none

/-- The operations that take a format, `.f` in the operation map (30_encoding.md R93). -/
inductive FormatOp where
  | paddr | baddr | pgaddr | rdpix | wrpix | rdtex | swzin | unswz
  deriving DecidableEq, Repr

/-- The operation code of an operation with a format (30_encoding.md R93). -/
def FormatOp.code : FormatOp → BitVec 8
  | .paddr => 0x01
  | .baddr => 0x02
  | .pgaddr => 0x03
  | .rdpix => 0x10
  | .wrpix => 0x11
  | .rdtex => 0x12
  | .swzin => 0x30
  | .unswz => 0x31

/-- The operation with a format that a code names (30_encoding.md R93). -/
def formatOpOf (op : BitVec 8) : Option FormatOp :=
  match op.toNat with
  | 0x01 => some .paddr
  | 0x02 => some .baddr
  | 0x03 => some .pgaddr
  | 0x10 => some .rdpix
  | 0x11 => some .wrpix
  | 0x12 => some .rdtex
  | 0x30 => some .swzin
  | 0x31 => some .unswz
  | _ => none

/-- `PADDR.f` of the format `f`: one of the thirteen constructors. -/
def Instr.paddrOf (f : Format) (x y : CoordArg) (bp : BasePtr) (bw : BufWidth) : Instr :=
  match f with
  | .ct32 => .paddrCt32 x y bp bw
  | .ct24 => .paddrCt24 x y bp bw
  | .ct16 => .paddrCt16 x y bp bw
  | .ct16s => .paddrCt16s x y bp bw
  | .t8 => .paddrT8 x y bp bw
  | .t4 => .paddrT4 x y bp bw
  | .t8h => .paddrT8h x y bp bw
  | .t4hl => .paddrT4hl x y bp bw
  | .t4hh => .paddrT4hh x y bp bw
  | .z32 => .paddrZ32 x y bp bw
  | .z24 => .paddrZ24 x y bp bw
  | .z16 => .paddrZ16 x y bp bw
  | .z16s => .paddrZ16s x y bp bw

/-- `BADDR.f` of the format `f`: one of the thirteen constructors. -/
def Instr.baddrOf (f : Format) (x y : CoordArg) (bp : BasePtr) (bw : BufWidth) : Instr :=
  match f with
  | .ct32 => .baddrCt32 x y bp bw
  | .ct24 => .baddrCt24 x y bp bw
  | .ct16 => .baddrCt16 x y bp bw
  | .ct16s => .baddrCt16s x y bp bw
  | .t8 => .baddrT8 x y bp bw
  | .t4 => .baddrT4 x y bp bw
  | .t8h => .baddrT8h x y bp bw
  | .t4hl => .baddrT4hl x y bp bw
  | .t4hh => .baddrT4hh x y bp bw
  | .z32 => .baddrZ32 x y bp bw
  | .z24 => .baddrZ24 x y bp bw
  | .z16 => .baddrZ16 x y bp bw
  | .z16s => .baddrZ16s x y bp bw

/-- `PGADDR.f` of the format `f`: one of the thirteen constructors. -/
def Instr.pgaddrOf (f : Format) (x y : CoordArg) (bp : BasePtr) (bw : BufWidth) : Instr :=
  match f with
  | .ct32 => .pgaddrCt32 x y bp bw
  | .ct24 => .pgaddrCt24 x y bp bw
  | .ct16 => .pgaddrCt16 x y bp bw
  | .ct16s => .pgaddrCt16s x y bp bw
  | .t8 => .pgaddrT8 x y bp bw
  | .t4 => .pgaddrT4 x y bp bw
  | .t8h => .pgaddrT8h x y bp bw
  | .t4hl => .pgaddrT4hl x y bp bw
  | .t4hh => .pgaddrT4hh x y bp bw
  | .z32 => .pgaddrZ32 x y bp bw
  | .z24 => .pgaddrZ24 x y bp bw
  | .z16 => .pgaddrZ16 x y bp bw
  | .z16s => .pgaddrZ16s x y bp bw

/-- `RDPIX.f` of the format `f`: one of the thirteen constructors. -/
def Instr.rdpixOf (f : Format) (x y : CoordArg) (bp : BasePtr) (bw : BufWidth) : Instr :=
  match f with
  | .ct32 => .rdpixCt32 x y bp bw
  | .ct24 => .rdpixCt24 x y bp bw
  | .ct16 => .rdpixCt16 x y bp bw
  | .ct16s => .rdpixCt16s x y bp bw
  | .t8 => .rdpixT8 x y bp bw
  | .t4 => .rdpixT4 x y bp bw
  | .t8h => .rdpixT8h x y bp bw
  | .t4hl => .rdpixT4hl x y bp bw
  | .t4hh => .rdpixT4hh x y bp bw
  | .z32 => .rdpixZ32 x y bp bw
  | .z24 => .rdpixZ24 x y bp bw
  | .z16 => .rdpixZ16 x y bp bw
  | .z16s => .rdpixZ16s x y bp bw

/-- `WRPIX.f` of the format `f`: one of the thirteen constructors. -/
def Instr.wrpixOf (f : Format) (x y : CoordArg) (bp : BasePtr) (bw : BufWidth) (v : Word32) : Instr :=
  match f with
  | .ct32 => .wrpixCt32 x y bp bw v
  | .ct24 => .wrpixCt24 x y bp bw v
  | .ct16 => .wrpixCt16 x y bp bw v
  | .ct16s => .wrpixCt16s x y bp bw v
  | .t8 => .wrpixT8 x y bp bw v
  | .t4 => .wrpixT4 x y bp bw v
  | .t8h => .wrpixT8h x y bp bw v
  | .t4hl => .wrpixT4hl x y bp bw v
  | .t4hh => .wrpixT4hh x y bp bw v
  | .z32 => .wrpixZ32 x y bp bw v
  | .z24 => .wrpixZ24 x y bp bw v
  | .z16 => .wrpixZ16 x y bp bw v
  | .z16s => .wrpixZ16s x y bp bw v

/-- `RDTEX.f` of the format `f`: one of the thirteen constructors. -/
def Instr.rdtexOf (f : Format) (x y : CoordArg) (bp : BasePtr) (bw : BufWidth) (alphad : Desc) : Instr :=
  match f with
  | .ct32 => .rdtexCt32 x y bp bw alphad
  | .ct24 => .rdtexCt24 x y bp bw alphad
  | .ct16 => .rdtexCt16 x y bp bw alphad
  | .ct16s => .rdtexCt16s x y bp bw alphad
  | .t8 => .rdtexT8 x y bp bw alphad
  | .t4 => .rdtexT4 x y bp bw alphad
  | .t8h => .rdtexT8h x y bp bw alphad
  | .t4hl => .rdtexT4hl x y bp bw alphad
  | .t4hh => .rdtexT4hh x y bp bw alphad
  | .z32 => .rdtexZ32 x y bp bw alphad
  | .z24 => .rdtexZ24 x y bp bw alphad
  | .z16 => .rdtexZ16 x y bp bw alphad
  | .z16s => .rdtexZ16s x y bp bw alphad

/-- `SWZIN.f` of the format `f`: one of the thirteen constructors. -/
def Instr.swzinOf (f : Format) (xferd : Xferd) (resume : Bool) (src : List Byte) : Instr :=
  match f with
  | .ct32 => .swzinCt32 xferd resume src
  | .ct24 => .swzinCt24 xferd resume src
  | .ct16 => .swzinCt16 xferd resume src
  | .ct16s => .swzinCt16s xferd resume src
  | .t8 => .swzinT8 xferd resume src
  | .t4 => .swzinT4 xferd resume src
  | .t8h => .swzinT8h xferd resume src
  | .t4hl => .swzinT4hl xferd resume src
  | .t4hh => .swzinT4hh xferd resume src
  | .z32 => .swzinZ32 xferd resume src
  | .z24 => .swzinZ24 xferd resume src
  | .z16 => .swzinZ16 xferd resume src
  | .z16s => .swzinZ16s xferd resume src

/-- `UNSWZ.f` of the format `f`: one of the thirteen constructors. -/
def Instr.unswzOf (f : Format) (rect : RectArg) (bp : BasePtr) (bw : BufWidth) (mode : BitVec 2) (alphad : Desc) (pitch : Word32) : Instr :=
  match f with
  | .ct32 => .unswzCt32 rect bp bw mode alphad pitch
  | .ct24 => .unswzCt24 rect bp bw mode alphad pitch
  | .ct16 => .unswzCt16 rect bp bw mode alphad pitch
  | .ct16s => .unswzCt16s rect bp bw mode alphad pitch
  | .t8 => .unswzT8 rect bp bw mode alphad pitch
  | .t4 => .unswzT4 rect bp bw mode alphad pitch
  | .t8h => .unswzT8h rect bp bw mode alphad pitch
  | .t4hl => .unswzT4hl rect bp bw mode alphad pitch
  | .t4hh => .unswzT4hh rect bp bw mode alphad pitch
  | .z32 => .unswzZ32 rect bp bw mode alphad pitch
  | .z24 => .unswzZ24 rect bp bw mode alphad pitch
  | .z16 => .unswzZ16 rect bp bw mode alphad pitch
  | .z16s => .unswzZ16s rect bp bw mode alphad pitch

/-- The bytes that a `SWZIN` request presents: `length` of them (43_swizzle_engine.md R290; log entry 13). -/
def Operands.stream (o : Operands) : List Byte := o.src.take o.length.toNat

/-- The instruction of an operation with a format (30_encoding.md R93). -/
def FormatOp.instr (op : FormatOp) (f : Format) (o : Operands) : Instr :=
  match op with
  | .paddr => .paddrOf f o.x o.y o.bp o.bw
  | .baddr => .baddrOf f o.x o.y o.bp o.bw
  | .pgaddr => .pgaddrOf f o.x o.y o.bp o.bw
  | .rdpix => .rdpixOf f o.x o.y o.bp o.bw
  | .wrpix => .wrpixOf f o.x o.y o.bp o.bw o.v
  | .rdtex => .rdtexOf f o.x o.y o.bp o.bw o.alphad
  | .swzin => .swzinOf f o.xferd o.resume o.stream
  | .unswz => .unswzOf f o.rect o.bp o.bw o.mode o.alphad o.pitch

/-- The instruction of an operation without a format (30_encoding.md R93); none for a reserved code (R94). -/
def plainInstr (op : BitVec 8) (o : Operands) : Option Instr :=
  match op.toNat with
  | 0x00 => some .nop
  | 0x08 => some (.vmrd8 o.idx)
  | 0x09 => some (.vmrd16 o.idx)
  | 0x0A => some (.vmrd32 o.idx)
  | 0x0C => some (.vmwr8 o.idx o.v)
  | 0x0D => some (.vmwr16 o.idx o.v)
  | 0x0E => some (.vmwr32 o.idx o.v)
  | 0x20 => some (.exp16 o.v o.alphad)
  | 0x21 => some (.exp24 o.v o.alphad)
  | 0x28 => some (.clutwr o.texd o.clutd)
  | 0x29 => some (.clutrd32 o.texd o.alphad)
  | 0x2A => some .clutinv
  | 0x32 => some (.xfermm o.xferd)
  | 0x40 => some (.tcfetch o.texd o.alphad o.clampd)
  | 0x41 => some (.tcinval o.bp o.bw o.psm o.rect)
  | 0x42 => some (.tcalias o.keyTexd o.keyClampd o.texd)
  | 0x43 => some .tcage
  | 0x44 => some (.tcdrop o.keyTexd o.keyClampd o.isRt)
  | 0x45 => some .tcpurge
  | 0x46 => some (.tcrt o.texd o.handle)
  | 0x50 => some .save
  | 0x51 => some (.restore o.image)
  | _ => none

/-- `REQ[15:8]` (30_encoding.md R90). -/
def headerOp (h : BitVec 16) : BitVec 8 := h.extractLsb' 8 8

/-- `REQ[7:6]` (30_encoding.md R90). -/
def headerZero (h : BitVec 16) : BitVec 2 := h.extractLsb' 6 2

/-- `REQ[5:0]` (30_encoding.md R90). -/
def headerPsm (h : BitVec 16) : BitVec 6 := h.extractLsb' 0 6

/-- Decoding, in the order of 30_encoding.md R92: the operation code, the bits that must be zero, the format. -/
def decode (r : Request) : Except DecodeError Instr :=
  match formatOpOf (headerOp r.header) with
  | some op =>
    if headerZero r.header ≠ 0 then .error .headerBits
    else match formatOf (headerPsm r.header) with
      | none => .error .badFormat
      | some f => .ok (op.instr f r.ops)
  | none =>
    match plainInstr (headerOp r.header) r.ops with
    | none => .error .reservedOp
    | some i =>
      if headerZero r.header ≠ 0 then .error .headerBits
      else if headerPsm r.header ≠ 0 then .error .strayFormat
      else .ok i

/-- The header `op << 8 | psm` (30_encoding.md R90). -/
def header (op : BitVec 8) (psm : BitVec 6) : BitVec 16 := op ++ (0 : BitVec 2) ++ psm

/-- A request with nothing told about the backend's surfaces. -/
def request (op : BitVec 8) (psm : BitVec 6) (o : Operands) : Request := ⟨header op psm, o, []⟩

/-- The request of an operation with a format. -/
def formatRequest (op : FormatOp) (f : Format) (o : Operands) : Request := request op.code f.code o

/-- The operands of a pixel operation (30_encoding.md R93). -/
def pixelOperands (x y : CoordArg) (bp : BasePtr) (bw : BufWidth) : Operands :=
  { Operands.zero with x := x, y := y, bp := bp, bw := bw }

/-- The operands of `SWZIN.f`: `length` is the number of bytes of `src` (43_swizzle_engine.md R290). -/
def swzinOperands (xferd : Xferd) (resume : Bool) (src : List Byte) : Operands :=
  { Operands.zero with xferd := xferd, resume := resume, src := src, length := BitVec.ofNat 32 src.length }

/-- The operands of `UNSWZ.f` (43_swizzle_engine.md R295). -/
def unswzOperands (rect : RectArg) (bp : BasePtr) (bw : BufWidth) (mode : BitVec 2) (alphad : Desc)
    (pitch : Word32) : Operands :=
  { Operands.zero with rect := rect, bp := bp, bw := bw, mode := mode, alphad := alphad, pitch := pitch }

/-- The request of an instruction: its header (30_encoding.md R93, R95) and its operands. -/
def encode : Instr → Request
  | .nop => request 0x00 0 Operands.zero
  | .vmrd8 idx => request 0x08 0 { Operands.zero with idx := idx }
  | .vmrd16 idx => request 0x09 0 { Operands.zero with idx := idx }
  | .vmrd32 idx => request 0x0A 0 { Operands.zero with idx := idx }
  | .vmwr8 idx v => request 0x0C 0 { Operands.zero with idx := idx, v := v }
  | .vmwr16 idx v => request 0x0D 0 { Operands.zero with idx := idx, v := v }
  | .vmwr32 idx v => request 0x0E 0 { Operands.zero with idx := idx, v := v }
  | .exp16 v alphad => request 0x20 0 { Operands.zero with v := v, alphad := alphad }
  | .exp24 v alphad => request 0x21 0 { Operands.zero with v := v, alphad := alphad }
  | .clutwr texd clutd => request 0x28 0 { Operands.zero with texd := texd, clutd := clutd }
  | .clutrd32 texd alphad => request 0x29 0 { Operands.zero with texd := texd, alphad := alphad }
  | .clutinv => request 0x2A 0 Operands.zero
  | .xfermm xferd => request 0x32 0 { Operands.zero with xferd := xferd }
  | .tcfetch texd alphad clampd => request 0x40 0 { Operands.zero with texd := texd, alphad := alphad, clampd := clampd }
  | .tcinval bp bw psm rect => request 0x41 0 { Operands.zero with bp := bp, bw := bw, psm := psm, rect := rect }
  | .tcalias keyTexd keyClampd texd => request 0x42 0 { Operands.zero with keyTexd := keyTexd, keyClampd := keyClampd, texd := texd }
  | .tcage => request 0x43 0 Operands.zero
  | .tcdrop keyTexd keyClampd isRt => request 0x44 0 { Operands.zero with keyTexd := keyTexd, keyClampd := keyClampd, isRt := isRt }
  | .tcpurge => request 0x45 0 Operands.zero
  | .tcrt texd handle => request 0x46 0 { Operands.zero with texd := texd, handle := handle }
  | .save => request 0x50 0 Operands.zero
  | .restore image => request 0x51 0 { Operands.zero with image := image }
  | .paddrCt32 x y bp bw => formatRequest .paddr .ct32 (pixelOperands x y bp bw)
  | .paddrCt24 x y bp bw => formatRequest .paddr .ct24 (pixelOperands x y bp bw)
  | .paddrCt16 x y bp bw => formatRequest .paddr .ct16 (pixelOperands x y bp bw)
  | .paddrCt16s x y bp bw => formatRequest .paddr .ct16s (pixelOperands x y bp bw)
  | .paddrT8 x y bp bw => formatRequest .paddr .t8 (pixelOperands x y bp bw)
  | .paddrT4 x y bp bw => formatRequest .paddr .t4 (pixelOperands x y bp bw)
  | .paddrT8h x y bp bw => formatRequest .paddr .t8h (pixelOperands x y bp bw)
  | .paddrT4hl x y bp bw => formatRequest .paddr .t4hl (pixelOperands x y bp bw)
  | .paddrT4hh x y bp bw => formatRequest .paddr .t4hh (pixelOperands x y bp bw)
  | .paddrZ32 x y bp bw => formatRequest .paddr .z32 (pixelOperands x y bp bw)
  | .paddrZ24 x y bp bw => formatRequest .paddr .z24 (pixelOperands x y bp bw)
  | .paddrZ16 x y bp bw => formatRequest .paddr .z16 (pixelOperands x y bp bw)
  | .paddrZ16s x y bp bw => formatRequest .paddr .z16s (pixelOperands x y bp bw)
  | .baddrCt32 x y bp bw => formatRequest .baddr .ct32 (pixelOperands x y bp bw)
  | .baddrCt24 x y bp bw => formatRequest .baddr .ct24 (pixelOperands x y bp bw)
  | .baddrCt16 x y bp bw => formatRequest .baddr .ct16 (pixelOperands x y bp bw)
  | .baddrCt16s x y bp bw => formatRequest .baddr .ct16s (pixelOperands x y bp bw)
  | .baddrT8 x y bp bw => formatRequest .baddr .t8 (pixelOperands x y bp bw)
  | .baddrT4 x y bp bw => formatRequest .baddr .t4 (pixelOperands x y bp bw)
  | .baddrT8h x y bp bw => formatRequest .baddr .t8h (pixelOperands x y bp bw)
  | .baddrT4hl x y bp bw => formatRequest .baddr .t4hl (pixelOperands x y bp bw)
  | .baddrT4hh x y bp bw => formatRequest .baddr .t4hh (pixelOperands x y bp bw)
  | .baddrZ32 x y bp bw => formatRequest .baddr .z32 (pixelOperands x y bp bw)
  | .baddrZ24 x y bp bw => formatRequest .baddr .z24 (pixelOperands x y bp bw)
  | .baddrZ16 x y bp bw => formatRequest .baddr .z16 (pixelOperands x y bp bw)
  | .baddrZ16s x y bp bw => formatRequest .baddr .z16s (pixelOperands x y bp bw)
  | .pgaddrCt32 x y bp bw => formatRequest .pgaddr .ct32 (pixelOperands x y bp bw)
  | .pgaddrCt24 x y bp bw => formatRequest .pgaddr .ct24 (pixelOperands x y bp bw)
  | .pgaddrCt16 x y bp bw => formatRequest .pgaddr .ct16 (pixelOperands x y bp bw)
  | .pgaddrCt16s x y bp bw => formatRequest .pgaddr .ct16s (pixelOperands x y bp bw)
  | .pgaddrT8 x y bp bw => formatRequest .pgaddr .t8 (pixelOperands x y bp bw)
  | .pgaddrT4 x y bp bw => formatRequest .pgaddr .t4 (pixelOperands x y bp bw)
  | .pgaddrT8h x y bp bw => formatRequest .pgaddr .t8h (pixelOperands x y bp bw)
  | .pgaddrT4hl x y bp bw => formatRequest .pgaddr .t4hl (pixelOperands x y bp bw)
  | .pgaddrT4hh x y bp bw => formatRequest .pgaddr .t4hh (pixelOperands x y bp bw)
  | .pgaddrZ32 x y bp bw => formatRequest .pgaddr .z32 (pixelOperands x y bp bw)
  | .pgaddrZ24 x y bp bw => formatRequest .pgaddr .z24 (pixelOperands x y bp bw)
  | .pgaddrZ16 x y bp bw => formatRequest .pgaddr .z16 (pixelOperands x y bp bw)
  | .pgaddrZ16s x y bp bw => formatRequest .pgaddr .z16s (pixelOperands x y bp bw)
  | .rdpixCt32 x y bp bw => formatRequest .rdpix .ct32 (pixelOperands x y bp bw)
  | .rdpixCt24 x y bp bw => formatRequest .rdpix .ct24 (pixelOperands x y bp bw)
  | .rdpixCt16 x y bp bw => formatRequest .rdpix .ct16 (pixelOperands x y bp bw)
  | .rdpixCt16s x y bp bw => formatRequest .rdpix .ct16s (pixelOperands x y bp bw)
  | .rdpixT8 x y bp bw => formatRequest .rdpix .t8 (pixelOperands x y bp bw)
  | .rdpixT4 x y bp bw => formatRequest .rdpix .t4 (pixelOperands x y bp bw)
  | .rdpixT8h x y bp bw => formatRequest .rdpix .t8h (pixelOperands x y bp bw)
  | .rdpixT4hl x y bp bw => formatRequest .rdpix .t4hl (pixelOperands x y bp bw)
  | .rdpixT4hh x y bp bw => formatRequest .rdpix .t4hh (pixelOperands x y bp bw)
  | .rdpixZ32 x y bp bw => formatRequest .rdpix .z32 (pixelOperands x y bp bw)
  | .rdpixZ24 x y bp bw => formatRequest .rdpix .z24 (pixelOperands x y bp bw)
  | .rdpixZ16 x y bp bw => formatRequest .rdpix .z16 (pixelOperands x y bp bw)
  | .rdpixZ16s x y bp bw => formatRequest .rdpix .z16s (pixelOperands x y bp bw)
  | .wrpixCt32 x y bp bw v => formatRequest .wrpix .ct32 { pixelOperands x y bp bw with v := v }
  | .wrpixCt24 x y bp bw v => formatRequest .wrpix .ct24 { pixelOperands x y bp bw with v := v }
  | .wrpixCt16 x y bp bw v => formatRequest .wrpix .ct16 { pixelOperands x y bp bw with v := v }
  | .wrpixCt16s x y bp bw v => formatRequest .wrpix .ct16s { pixelOperands x y bp bw with v := v }
  | .wrpixT8 x y bp bw v => formatRequest .wrpix .t8 { pixelOperands x y bp bw with v := v }
  | .wrpixT4 x y bp bw v => formatRequest .wrpix .t4 { pixelOperands x y bp bw with v := v }
  | .wrpixT8h x y bp bw v => formatRequest .wrpix .t8h { pixelOperands x y bp bw with v := v }
  | .wrpixT4hl x y bp bw v => formatRequest .wrpix .t4hl { pixelOperands x y bp bw with v := v }
  | .wrpixT4hh x y bp bw v => formatRequest .wrpix .t4hh { pixelOperands x y bp bw with v := v }
  | .wrpixZ32 x y bp bw v => formatRequest .wrpix .z32 { pixelOperands x y bp bw with v := v }
  | .wrpixZ24 x y bp bw v => formatRequest .wrpix .z24 { pixelOperands x y bp bw with v := v }
  | .wrpixZ16 x y bp bw v => formatRequest .wrpix .z16 { pixelOperands x y bp bw with v := v }
  | .wrpixZ16s x y bp bw v => formatRequest .wrpix .z16s { pixelOperands x y bp bw with v := v }
  | .rdtexCt32 x y bp bw alphad => formatRequest .rdtex .ct32 { pixelOperands x y bp bw with alphad := alphad }
  | .rdtexCt24 x y bp bw alphad => formatRequest .rdtex .ct24 { pixelOperands x y bp bw with alphad := alphad }
  | .rdtexCt16 x y bp bw alphad => formatRequest .rdtex .ct16 { pixelOperands x y bp bw with alphad := alphad }
  | .rdtexCt16s x y bp bw alphad => formatRequest .rdtex .ct16s { pixelOperands x y bp bw with alphad := alphad }
  | .rdtexT8 x y bp bw alphad => formatRequest .rdtex .t8 { pixelOperands x y bp bw with alphad := alphad }
  | .rdtexT4 x y bp bw alphad => formatRequest .rdtex .t4 { pixelOperands x y bp bw with alphad := alphad }
  | .rdtexT8h x y bp bw alphad => formatRequest .rdtex .t8h { pixelOperands x y bp bw with alphad := alphad }
  | .rdtexT4hl x y bp bw alphad => formatRequest .rdtex .t4hl { pixelOperands x y bp bw with alphad := alphad }
  | .rdtexT4hh x y bp bw alphad => formatRequest .rdtex .t4hh { pixelOperands x y bp bw with alphad := alphad }
  | .rdtexZ32 x y bp bw alphad => formatRequest .rdtex .z32 { pixelOperands x y bp bw with alphad := alphad }
  | .rdtexZ24 x y bp bw alphad => formatRequest .rdtex .z24 { pixelOperands x y bp bw with alphad := alphad }
  | .rdtexZ16 x y bp bw alphad => formatRequest .rdtex .z16 { pixelOperands x y bp bw with alphad := alphad }
  | .rdtexZ16s x y bp bw alphad => formatRequest .rdtex .z16s { pixelOperands x y bp bw with alphad := alphad }
  | .swzinCt32 xferd resume src => formatRequest .swzin .ct32 (swzinOperands xferd resume src)
  | .swzinCt24 xferd resume src => formatRequest .swzin .ct24 (swzinOperands xferd resume src)
  | .swzinCt16 xferd resume src => formatRequest .swzin .ct16 (swzinOperands xferd resume src)
  | .swzinCt16s xferd resume src => formatRequest .swzin .ct16s (swzinOperands xferd resume src)
  | .swzinT8 xferd resume src => formatRequest .swzin .t8 (swzinOperands xferd resume src)
  | .swzinT4 xferd resume src => formatRequest .swzin .t4 (swzinOperands xferd resume src)
  | .swzinT8h xferd resume src => formatRequest .swzin .t8h (swzinOperands xferd resume src)
  | .swzinT4hl xferd resume src => formatRequest .swzin .t4hl (swzinOperands xferd resume src)
  | .swzinT4hh xferd resume src => formatRequest .swzin .t4hh (swzinOperands xferd resume src)
  | .swzinZ32 xferd resume src => formatRequest .swzin .z32 (swzinOperands xferd resume src)
  | .swzinZ24 xferd resume src => formatRequest .swzin .z24 (swzinOperands xferd resume src)
  | .swzinZ16 xferd resume src => formatRequest .swzin .z16 (swzinOperands xferd resume src)
  | .swzinZ16s xferd resume src => formatRequest .swzin .z16s (swzinOperands xferd resume src)
  | .unswzCt32 rect bp bw mode alphad pitch => formatRequest .unswz .ct32 (unswzOperands rect bp bw mode alphad pitch)
  | .unswzCt24 rect bp bw mode alphad pitch => formatRequest .unswz .ct24 (unswzOperands rect bp bw mode alphad pitch)
  | .unswzCt16 rect bp bw mode alphad pitch => formatRequest .unswz .ct16 (unswzOperands rect bp bw mode alphad pitch)
  | .unswzCt16s rect bp bw mode alphad pitch => formatRequest .unswz .ct16s (unswzOperands rect bp bw mode alphad pitch)
  | .unswzT8 rect bp bw mode alphad pitch => formatRequest .unswz .t8 (unswzOperands rect bp bw mode alphad pitch)
  | .unswzT4 rect bp bw mode alphad pitch => formatRequest .unswz .t4 (unswzOperands rect bp bw mode alphad pitch)
  | .unswzT8h rect bp bw mode alphad pitch => formatRequest .unswz .t8h (unswzOperands rect bp bw mode alphad pitch)
  | .unswzT4hl rect bp bw mode alphad pitch => formatRequest .unswz .t4hl (unswzOperands rect bp bw mode alphad pitch)
  | .unswzT4hh rect bp bw mode alphad pitch => formatRequest .unswz .t4hh (unswzOperands rect bp bw mode alphad pitch)
  | .unswzZ32 rect bp bw mode alphad pitch => formatRequest .unswz .z32 (unswzOperands rect bp bw mode alphad pitch)
  | .unswzZ24 rect bp bw mode alphad pitch => formatRequest .unswz .z24 (unswzOperands rect bp bw mode alphad pitch)
  | .unswzZ16 rect bp bw mode alphad pitch => formatRequest .unswz .z16 (unswzOperands rect bp bw mode alphad pitch)
  | .unswzZ16s rect bp bw mode alphad pitch => formatRequest .unswz .z16s (unswzOperands rect bp bw mode alphad pitch)

/-- The instruction read from the opcode table's word `w`: the header, with every operand zero or empty. -/
def decodeTableWord (_nbits w : Nat) : Option Instr :=
  if w < 2 ^ 16 then
    match decode ⟨BitVec.ofNat 16 w, .zero, []⟩ with
    | .ok i => some i
    | .error _ => none
  else none

end Sys2Proof
end

