-- ==== Sys2Proof/Machine/State.lean ====
section
/-! DEFINITION. The state of the GSVM core as plain data (10_state.md R20), the ways an operation ends, and reset. -/

namespace Sys2Proof.Machine

/-- Raised by nobody: no rule of the spec stops the machine. A failing operation is a NEXT state that has STATUS set and
is otherwise unchanged (60_exceptions.md R400, R401, R406). Safe. -/
inductive Fault where
  deriving DecidableEq, Repr

/-- The refusals of `exec`. -/
inductive Refusal where
  /-- Raised by an arm of `exec` for an operation that has no meaning; no arm does. Safe. -/
  | notModelled (mnemonic : String)
  deriving DecidableEq, Repr

/-- What one request ends in. -/
abbrev Answer (σ : Type) := Host.Outcome σ Fault Refusal

/-- The cause codes of a contract violation (60_exceptions.md R404). -/
inductive Cause where
  | badOp | badPsm | badBw | oob | zeroArea | badRect | badDir | badDim | badPal | badCpsm | badCsa | badCur | badMode
  | badPitch | noEntry | badImage
  deriving DecidableEq, Repr

/-- How an operation ends: the four classes of STATUS (60_exceptions.md R400, R404). -/
inductive Ending where
  /-- Success. -/
  | ok
  /-- `ContractViolation(cause)` (R401). -/
  | cv (c : Cause)
  /-- The refusal sentinel of `TCFETCH` (R402). -/
  | refused
  /-- No room that allocation pressure may free (R403). -/
  | exhausted
  deriving DecidableEq, Repr

/-- GSMEM, the listed bytes: address and byte (10_state.md R24). -/
abbrev Memory := List Host.Cell

/-- `CLUT` (10_state.md R28). -/
abbrev ClutMemory := Vector (BitVec 16) Config.clutEntries

/-- `CLUT32` (10_state.md R31). -/
abbrev Palette := Vector Word32 Config.clut32Entries

/-- A rectangle, right and bottom exclusive (00_scope.md R16). -/
structure Rect where
  left : Nat
  top : Nat
  right : Nat
  bottom : Nat
  deriving DecidableEq, Repr

/-- The transfer cursor `CUR` (10_state.md R22). -/
structure Cursor where
  x : Coord
  y : Coord
  active : Bool
  deriving DecidableEq, Repr

/-- The signature held in `CLUT_SNAP` (10_state.md R29, 42_color_clut.md R259). -/
structure ClutSig where
  pal : Nat
  cpsm : BitVec 4
  cbp : BasePtr
  csm : Bool
  csa : BitVec 5
  cbw : BufWidth
  cou : BitVec 6
  cov : BitVec 10
  deriving DecidableEq, Repr

/-- The palette snapshot of a key (10_state.md R37). -/
inductive PalSnap where
  /-- An indexed format: the part of `CLUT32` it uses. -/
  | palette (colours : List Word32)
  /-- A format that uses colour expansion: the alpha constants. -/
  | alpha (ta0 ta1 : BitVec 8) (aem : Bool)
  /-- CT32, Z32, and every render target. -/
  | empty
  deriving DecidableEq, Repr

/-- The key of an entry (10_state.md R37). -/
structure Key where
  bp : BasePtr
  psm : Format
  bw : BufWidth
  tw : BitVec 4
  th : BitVec 4
  wms : BitVec 2
  wmt : BitVec 2
  palSnap : PalSnap
  deriving DecidableEq, Repr

/-- A DirtyRect: a rectangle tagged with the writer's format (10_state.md R38). -/
structure DirtyRect where
  rect : Rect
  psm : Format
  deriving DecidableEq, Repr

/-- A sub-surface of a render target (10_state.md R39). -/
structure SubSurface where
  bw : BufWidth
  w : Nat
  h : Nat
  surface : Nat
  deriving DecidableEq, Repr

/-- What an entry holds: a decoded bitmap (`is_rt = 0`) or a handle to a backend surface (`is_rt = 1`) (10_state.md R36).
The bitmap is the rows of the `valid` rectangle; a texel outside it holds no meaningful value (log entry 17). -/
inductive Content where
  | bitmap (rows : Pixels)
  | surface (handle : Nat)
  deriving DecidableEq, Repr

/-- A CachedTexture (10_state.md R36). -/
structure Entry where
  key : Key
  content : Content
  valid : Rect
  dirty : List DirtyRect
  age : Nat
  subs : List SubSurface
  deriving DecidableEq, Repr

/-- The result value of an operation, the core's answer beside STATUS (30_encoding.md R90, R93). -/
inductive Result where
  /-- No result: an operation that has none, or one that failed. -/
  | none
  /-- `PADDR`, `BADDR`, `PGADDR`: an offset, a block index, a page index. -/
  | index (n : Nat)
  /-- `VMRD8`. -/
  | byte (v : Byte)
  /-- `VMRD16`. -/
  | half (v : BitVec 16)
  /-- `VMRD32`, `RDPIX`, `RDTEX`, `EXP16`, `EXP24`. -/
  | word (v : Word32)
  /-- `CLUTRD32`: `CLUT32`. -/
  | palette (p : Palette)
  /-- `SWZIN`: the cursor, and how many bytes were used. -/
  | transfer (x y : Coord) (active : Bool) (consumed : Nat)
  /-- `UNSWZ`: row `j` goes to the host's buffer at byte offset `j * pitch` (43_swizzle_engine.md R295). -/
  | rows (pitch : Nat) (rows : List (List Byte))
  /-- `TCFETCH`: the bitmap restricted to `valid`, with its pitch in bytes and `is_rt = 0` (30_encoding.md R112,
  44_texture_cache.md R336, R339). -/
  | texture (pitch : Nat) (texels : Pixels) (valid : Rect)
  /-- `TCFETCH` on the alias path: the surface, with `is_rt = 1`, and its stale part (44_texture_cache.md R349). -/
  | renderTarget (surface : Nat) (stale : Option Rect)
  /-- `TCALIAS`. -/
  | surface (handle : Nat)
  /-- `SAVE`. -/
  | image (bytes : List Byte)
  deriving DecidableEq, Repr

/-- The state. The first eight fields are the spec's (10_state.md R20; FMT and the address tables are configuration,
R26, R27); the last four are the model's own (log entries 2, 3, 6, 9). -/
structure State where
  /-- `GSMEM` (R24). -/
  mem : Memory
  /-- `CLUT` (R28). -/
  clut : ClutMemory
  /-- `CLUT_SNAP` (R29). -/
  clutSnap : Option ClutSig
  /-- `CLUT_DIRTY` (R30). -/
  clutDirty : Bool
  /-- `CLUT32` (R31). -/
  clut32 : Palette
  /-- `CUR` (R22). -/
  cur : Cursor
  /-- `TC`, oldest insertion first (R35). -/
  tc : List Entry
  /-- `STATUS`, `class << 8 | cause` (R23, 60_exceptions.md R404). -/
  status : BitVec 16
  /-- The requests the host has presented, next first. -/
  requests : List Request
  /-- The result of the last operation. -/
  result : Result
  /-- The backend's surfaces as the host has told them: the argument SURF of the step. -/
  surf : List (Nat × Pixels)
  /-- How many free values have been drawn. -/
  free : Nat
  deriving DecidableEq, Repr

/-- The core right after reset (10_state.md R50, 70_reset_and_hazards.md R441, R442). GSMEM, `CLUT` and `CLUT32` are
unspecified there: the values are the model's (DESIGN CHOICE; log entries 4, 5). -/
def State.reset : State where
  mem := []
  clut := Vector.replicate Config.clutEntries Config.clutReset
  clutSnap := none
  clutDirty := true
  clut32 := Vector.replicate Config.clut32Entries Config.clut32Reset
  cur := ⟨0, 0, false⟩
  tc := []
  status := 0x0000
  requests := []
  result := .none
  surf := []
  free := 0

end Sys2Proof.Machine
end

