-- ==== Sys2Proof/Machine/Tables.lean ====
section
/-! DEFINITION. The immutable tables: the per-format descriptors (10_state.md R26), the block and column tables
(40_address_translator.md R134 to R146), the CLUT geometry (42_color_clut.md R258, R263). -/

namespace Sys2Proof.Machine

/-- The storage class, the width in bits of the unit a pixel address counts (10_state.md R26). -/
inductive StorageClass where
  | c32 | c16 | c8 | c4
  deriving DecidableEq, Repr

/-- The names of the block tables (10_state.md R26). -/
inductive BlkTab where
  | blk32 | blk32z | blk16 | blk16s | blk16z | blk16sz | blk8 | blk4
  deriving DecidableEq, Repr

/-- The names of the column tables (10_state.md R26). -/
inductive ColTab where
  | col32 | col16 | col8 | col4
  deriving DecidableEq, Repr

/-- A PixelFormatDescriptor (10_state.md R26). -/
structure FormatDesc where
  cls : StorageClass
  bpp : Nat
  trbpp : Nat
  bkw : Nat
  bkh : Nat
  pw : Nat
  ph : Nat
  pal : Nat
  mask : Word32
  shift : Nat
  blk : BlkTab
  col : ColTab
  deriving DecidableEq, Repr

/-- Bits of a storage unit. -/
def StorageClass.bits : StorageClass → Nat
  | .c32 => 32
  | .c16 => 16
  | .c8 => 8
  | .c4 => 4

/-- `FMT` (10_state.md R26). -/
def fmt : Format → FormatDesc
  | .ct32 => ⟨.c32, 32, 32, 8, 8, 64, 32, 0, 0xFFFFFFFF, 0, .blk32, .col32⟩
  | .ct24 => ⟨.c32, 32, 24, 8, 8, 64, 32, 0, 0x00FFFFFF, 0, .blk32, .col32⟩
  | .ct16 => ⟨.c16, 16, 16, 16, 8, 64, 64, 0, 0xFFFF, 0, .blk16, .col16⟩
  | .ct16s => ⟨.c16, 16, 16, 16, 8, 64, 64, 0, 0xFFFF, 0, .blk16s, .col16⟩
  | .t8 => ⟨.c8, 8, 8, 16, 16, 128, 64, 256, 0xFF, 0, .blk8, .col8⟩
  | .t4 => ⟨.c4, 4, 4, 32, 16, 128, 128, 16, 0xF, 0, .blk4, .col4⟩
  | .t8h => ⟨.c32, 32, 8, 8, 8, 64, 32, 256, 0xFF, 24, .blk32, .col32⟩
  | .t4hl => ⟨.c32, 32, 4, 8, 8, 64, 32, 16, 0xF, 24, .blk32, .col32⟩
  | .t4hh => ⟨.c32, 32, 4, 8, 8, 64, 32, 16, 0xF, 28, .blk32, .col32⟩
  | .z32 => ⟨.c32, 32, 32, 8, 8, 64, 32, 0, 0xFFFFFFFF, 0, .blk32z, .col32⟩
  | .z24 => ⟨.c32, 32, 24, 8, 8, 64, 32, 0, 0x00FFFFFF, 0, .blk32z, .col32⟩
  | .z16 => ⟨.c16, 16, 16, 16, 8, 64, 64, 0, 0xFFFF, 0, .blk16z, .col16⟩
  | .z16s => ⟨.c16, 16, 16, 16, 8, 64, 64, 0, 0xFFFF, 0, .blk16sz, .col16⟩

/-- `w(F)`, the width of a raw value (41_pixel_io.md R191). -/
def rawBits : Format → Nat
  | .ct32 | .z32 => 32
  | .ct24 | .z24 => 24
  | .ct16 | .ct16s | .z16 | .z16s => 16
  | .t8 | .t8h => 8
  | .t4 | .t4hl | .t4hh => 4

/-- Bit `k` of an index, as a number: `i0` of the bit formulas is `bitAt i 0` (40_address_translator.md section 3). -/
def bitAt (n k : Nat) : Nat := n / 2 ^ k % 2

/-- `BLK32` (40_address_translator.md R136). -/
def blk32 (j i : Nat) : Nat :=
  bitAt i 0 + 2 * bitAt j 0 + 4 * bitAt i 1 + 8 * bitAt j 1 + 16 * bitAt i 2

/-- `BLK16` (40_address_translator.md R138). -/
def blk16 (j i : Nat) : Nat :=
  bitAt j 0 + 2 * bitAt i 0 + 4 * bitAt j 1 + 8 * bitAt i 1 + 16 * bitAt j 2

/-- `BLK16S` (40_address_translator.md R139). -/
def blk16s (j i : Nat) : Nat :=
  bitAt j 0 + 2 * bitAt i 0 + 4 * bitAt j 2 + 8 * bitAt j 1 + 16 * bitAt i 1

/-- `BLKTAB`: the place in its page of the block at block-row `j` and block-column `i`
(40_address_translator.md R134, R136 to R141, R146). -/
def blkEntry (t : BlkTab) (j i : Nat) : Nat :=
  match t with
  | .blk32 | .blk8 => blk32 j i
  | .blk32z => blk32 j i ^^^ 24
  | .blk16 | .blk4 => blk16 j i
  | .blk16s => blk16s j i
  | .blk16z => blk16 j i ^^^ 24
  | .blk16sz => blk16s j i ^^^ 24

/-- `COLTAB`: the place in its block, in storage units, of the pixel at row `r` and column `c`
(40_address_translator.md R135, R142 to R145). -/
def colEntry (t : ColTab) (r c : Nat) : Nat :=
  match t with
  | .col32 => bitAt c 0 + 2 * bitAt r 0 + 4 * bitAt c 1 + 8 * bitAt c 2 + 16 * bitAt r 1 + 32 * bitAt r 2
  | .col16 =>
    bitAt c 3 + 2 * bitAt c 0 + 4 * bitAt r 0 + 8 * bitAt c 1 + 16 * bitAt c 2 + 32 * bitAt r 1 + 64 * bitAt r 2
  | .col8 =>
    bitAt r 1 + 2 * bitAt c 3 + 4 * bitAt c 0 + 8 * bitAt r 0 + 16 * bitAt c 1
      + 32 * (bitAt c 2 ^^^ bitAt r 1 ^^^ bitAt r 2) + 64 * bitAt r 2 + 128 * bitAt r 3
  | .col4 =>
    bitAt r 1 + 2 * bitAt c 3 + 4 * bitAt c 4 + 8 * bitAt c 0 + 16 * bitAt r 0 + 32 * bitAt c 1
      + 64 * (bitAt c 2 ^^^ bitAt r 1 ^^^ bitAt r 2) + 128 * bitAt r 2 + 256 * bitAt r 3

/-- The palette format a CPSM code names, if it is legal (30_encoding.md R97). -/
def cpsmFormat (cpsm : BitVec 4) : Option Format :=
  match cpsm.toNat with
  | 0x0 => some .ct32
  | 0x1 => if Config.clut24As32 then some .ct32 else none
  | 0x2 => some .ct16
  | 0xA => some .ct16s
  | _ => none

/-- Whether a palette entry is 32 bits wide and so split over the two halves of `CLUT` (42_color_clut.md R256, R257). -/
def wideEntry (cpf : Format) : Bool := cpf == .ct32

/-- `CLUT_BASE` (42_color_clut.md R258). -/
def clutBase (csa : BitVec 5) : Nat := 16 * csa.toNat

/-- The legality condition of `CLUT_BASE` for `n` entries (42_color_clut.md R258). -/
def clutBaseLegal (cpf : Format) (csa : BitVec 5) (n : Nat) : Bool :=
  if wideEntry cpf then clutBase csa + n ≤ Config.clutBank else clutBase csa + n ≤ Config.clutEntries

/-- The pixel of palette entry `i` of `n` for `CSM = 0`: for 256 entries bits 3 and 4 of `i` are swapped
(42_color_clut.md R263). DEDUCED: the 16 by 16 area of a 256-entry palette of 16-bit entries takes two blocks, `CBP` and
`CBP + 1`, as R263's pseudocode and V5 of 95_test_vectors.md give it, and not one, as a sentence of R263 says
(log entry 26). -/
def csm0Pixel (n i : Nat) : Nat × Nat :=
  if n = 16 then (i % 8, i / 8)
  else
    let p := i &&& 0xE7 ||| (i &&& 0x08) <<< 1 ||| (i &&& 0x10) >>> 1
    (p % 16, p / 16)

end Sys2Proof.Machine
end

