-- ==== Sys2Proof/Machine/Flags.lean ====
section
/-! DEFINITION. The status elements of 10_state.md R23: STATUS and its codes (60_exceptions.md R404), and how a transfer
leaves `CUR` and `CUR.active`. -/

namespace Sys2Proof.Machine

/-- The cause code (60_exceptions.md R404). -/
def Cause.code : Cause → BitVec 8
  | .badOp => 0x01
  | .badPsm => 0x02
  | .badBw => 0x03
  | .oob => 0x04
  | .zeroArea => 0x05
  | .badRect => 0x06
  | .badDir => 0x07
  | .badDim => 0x08
  | .badPal => 0x09
  | .badCpsm => 0x0A
  | .badCsa => 0x0B
  | .badCur => 0x0C
  | .badMode => 0x0D
  | .badPitch => 0x0E
  | .noEntry => 0x0F
  | .badImage => 0x10

/-- `STATUS = class << 8 | cause` (60_exceptions.md R402, R404). -/
def Ending.status : Ending → BitVec 16
  | .ok => 0x0000
  | .cv c => (0x01 : BitVec 8) ++ c.code
  | .refused => (0x02 : BitVec 8) ++ Cause.badCpsm.code
  | .exhausted => 0x0300

/-- The status of a header the decoder refuses (30_encoding.md R92). -/
def decodeCause : DecodeError → Cause
  | .reservedOp | .headerBits | .strayFormat => .badOp
  | .badFormat => .badPsm

/-- `CUR` after a `SWZIN` that has come to `p`, the end of the walk being `stop` (43_swizzle_engine.md R290). -/
def cursorAfter (p stop : Nat × Nat) : Cursor :=
  if p = stop then ⟨0, 0, false⟩ else ⟨BitVec.ofNat 11 p.1, BitVec.ofNat 11 p.2, true⟩

end Sys2Proof.Machine
end

