-- ==== Sys2Proof/Machine/Ops.lean ====
section
/-! DEFINITION. The named operations over the state: GSMEM and its three views, the one way an operation fails
(`State.raise`) and the one way it succeeds (`State.answer`), rectangles, and the taking of a request. -/

namespace Sys2Proof.Machine

/-! ### GSMEM -/

/-- A byte of GSMEM; an unlisted address reads as `Config.memReset` (10_state.md R24, R50; log entry 4). -/
def Memory.read : Memory → Nat → Byte
  | [], _ => Config.memReset
  | (b, v) :: t, a => if a = b then v else Memory.read t a

/-- List a byte at its place in address order. -/
def Memory.insert : Memory → Nat → Byte → Memory
  | [], a, v => [(a, v)]
  | (b, w) :: t, a, v => if a < b then (a, v) :: (b, w) :: t else (b, w) :: Memory.insert t a v

/-- Unlist an address. -/
def Memory.erase (m : Memory) (a : Nat) : Memory := m.filter fun c => c.1 ≠ a

/-- Write a byte, keeping the canonical form (10_state.md R24). -/
def Memory.write (m : Memory) (a : Nat) (v : Byte) : Memory :=
  if v = Config.memReset then Memory.erase m a else Memory.insert (Memory.erase m a) a v

/-- The canonical form: addresses strictly rising and inside the arena, no entry equal to what an unlisted address
reads as. -/
abbrev Memory.wf (m : Memory) : Prop :=
  m.Pairwise (fun c d => c.1 < d.1) ∧ ∀ c ∈ m, c.1 < Config.vmSize ∧ c.2 ≠ Config.memReset

/-- `MemRead(a, 2)`, little-endian (20_memory.md R64). -/
def Memory.read16 (m : Memory) (a : Nat) : BitVec 16 := Memory.read m (a + 1) ++ Memory.read m a

/-- `MemRead(a, 4)`, little-endian (20_memory.md R64). -/
def Memory.read32 (m : Memory) (a : Nat) : Word32 := Memory.read16 m (a + 2) ++ Memory.read16 m a

/-- `MemWrite(a, 2, v)`: the low byte at the low address (20_memory.md R64). -/
def Memory.write16 (m : Memory) (a : Nat) (v : BitVec 16) : Memory :=
  Memory.write (Memory.write m a (v.extractLsb' 0 8)) (a + 1) (v.extractLsb' 8 8)

/-- `MemWrite(a, 4, v)`: the low byte at the low address (20_memory.md R64). -/
def Memory.write32 (m : Memory) (a : Nat) (v : Word32) : Memory :=
  Memory.write16 (Memory.write16 m a (v.extractLsb' 0 16)) (a + 2) (v.extractLsb' 16 16)

/-- `VM16[i]` (10_state.md R25, 20_memory.md R61). -/
def Memory.vm16 (m : Memory) (i : Nat) : BitVec 16 := Memory.read16 m (2 * i)

/-- `VM32[i]` (10_state.md R25, 20_memory.md R61). -/
def Memory.vm32 (m : Memory) (i : Nat) : Word32 := Memory.read32 m (4 * i)

/-- The arena check of 20_memory.md R62 for `n` bytes at `a`. -/
def inBounds (a n : Nat) : Bool := a + n ≤ Config.vmSize

/-- The memory that holds exactly these bytes from address 0 on (45_host_ops.md R389). -/
def Memory.ofBytes (bytes : List Byte) : Memory :=
  (bytes.zipIdx.filter fun b => b.1 ≠ Config.memReset).map fun b => (b.2, b.1)

/-! ### How an operation ends -/

/-- The state after a failed operation: STATUS is set, there is no result, nothing else changes (60_exceptions.md R400,
R406). -/
def State.failed (s : State) (e : Ending) : State := { s with status := e.status, result := .none }

/-- The state after an operation that succeeds with a result and changes nothing further (60_exceptions.md R400, R404). -/
def State.succeeded (s : State) (r : Result) : State := { s with status := Ending.ok.status, result := r }

/-- An operation fails: for every contract violation the fallback is `OobPolicy.noOp` (60_exceptions.md R401, R405). There
is no trap entry and so no return from one (60_exceptions.md R411, R412). -/
def State.raise (s : State) (e : Ending) : Answer State := .next (s.failed e)

/-- An operation succeeds. -/
def State.answer (s : State) (r : Result) : Answer State := .next (s.succeeded r)

/-- The first check of a list that fails, in the list's order (60_exceptions.md R407). -/
def firstFailure : List (Bool × Cause) → Option Cause
  | [] => none
  | (bad, c) :: rest => if bad then some c else firstFailure rest

/-- Make the checks in order; raise the first that fails, else go on. -/
def State.check (s : State) (checks : List (Bool × Cause)) (go : Answer State) : Answer State :=
  match firstFailure checks with
  | some c => s.raise (.cv c)
  | none => go

/-! ### Rectangles (00_scope.md R16) -/

/-- The pixel `(x, y)` lies in the rectangle. -/
def Rect.has (r : Rect) (x y : Nat) : Bool := r.left ≤ x && x < r.right && r.top ≤ y && y < r.bottom

/-- The bounding rectangle of both. -/
def Rect.union (r s : Rect) : Rect :=
  ⟨min r.left s.left, min r.top s.top, max r.right s.right, max r.bottom s.bottom⟩

/-- The common part. -/
def Rect.inter (r s : Rect) : Rect :=
  ⟨max r.left s.left, max r.top s.top, min r.right s.right, min r.bottom s.bottom⟩

/-- The pixels of a rectangle in raster order. -/
def Rect.pixels (r : Rect) : List (Nat × Nat) :=
  (List.range' r.top (r.bottom - r.top)).flatMap fun y =>
    (List.range' r.left (r.right - r.left)).map fun x => (x, y)

/-- The rows over a rectangle of a value given at each pixel. -/
def Rect.tabulate (r : Rect) (f : Nat → Nat → Word32) : Pixels :=
  (List.range' r.top (r.bottom - r.top)).map fun y =>
    (List.range' r.left (r.right - r.left)).map fun x => f x y

/-- The bounding rectangle of a list of pixels, if there are any. -/
def boundingBox : List (Nat × Nat) → Option Rect
  | [] => none
  | p :: ps =>
    match boundingBox ps with
    | none => some ⟨p.1, p.2, p.1 + 1, p.2 + 1⟩
    | some r => some (r.union ⟨p.1, p.2, p.1 + 1, p.2 + 1⟩)

/-! ### Taking a request -/

/-- Tell the core a surface's contents, in place of what it was told of that handle before
(44_texture_cache.md R352; log entry 9). -/
def surfSet (l : List (Nat × Pixels)) (p : Nat × Pixels) : List (Nat × Pixels) :=
  p :: l.filter fun q => q.1 ≠ p.1

/-- The state in which the request `r` is decoded: taken off the port, with what the backend has drawn
(30_encoding.md R90). -/
def State.take (s : State) (r : Request) (rest : List Request) : State :=
  { s with requests := rest, surf := r.surf.foldl surfSet s.surf }

end Sys2Proof.Machine
end

