-- ==== Sys2Proof/Machine/Operands.lean ====
section
/-! DEFINITION. The operand forms: the fields of the descriptors (30_encoding.md R101 to R108), the one addressing mode,
"pixel (x, y) of the buffer at (bp, bw) in format F" (40_address_translator.md R148, R189), the pixel read and write
(41_pixel_io.md R193, R194), and the linear buffers (43_swizzle_engine.md R282). -/

namespace Sys2Proof.Machine

/-! ### TEXD (30_encoding.md R101) -/

/-- `TBP0`. -/
def Texd.tbp0 (d : Desc) : BasePtr := d.extractLsb' 0 Config.bpBits
/-- `TBW`. -/
def Texd.tbw (d : Desc) : BufWidth := d.extractLsb' 14 Config.bwBits
/-- `PSM`. -/
def Texd.psm (d : Desc) : BitVec 6 := d.extractLsb' 20 6
/-- `TW`. -/
def Texd.tw (d : Desc) : BitVec 4 := d.extractLsb' 26 4
/-- `TH`. -/
def Texd.th (d : Desc) : BitVec 4 := d.extractLsb' 30 4
/-- `CBP`. -/
def Texd.cbp (d : Desc) : BasePtr := d.extractLsb' 37 Config.bpBits
/-- `CPSM`. -/
def Texd.cpsm (d : Desc) : BitVec 4 := d.extractLsb' 51 4
/-- `CSM`. -/
def Texd.csm (d : Desc) : Bool := d.getLsbD 55
/-- `CSA`. -/
def Texd.csa (d : Desc) : BitVec 5 := d.extractLsb' 56 5

/-! ### ALPHAD (30_encoding.md R102) -/

/-- `TA0`. -/
def Alphad.ta0 (d : Desc) : BitVec 8 := d.extractLsb' 0 8
/-- `AEM`. -/
def Alphad.aem (d : Desc) : Bool := d.getLsbD 15
/-- `TA1`. -/
def Alphad.ta1 (d : Desc) : BitVec 8 := d.extractLsb' 32 8

/-! ### CLUTD (30_encoding.md R103) -/

/-- `CBW`. -/
def Clutd.cbw (d : Desc) : BufWidth := d.extractLsb' 0 Config.bwBits
/-- `COU`. -/
def Clutd.cou (d : Desc) : BitVec 6 := d.extractLsb' 6 6
/-- `COV`. -/
def Clutd.cov (d : Desc) : BitVec 10 := d.extractLsb' 12 10

/-! ### XFERD (30_encoding.md R104) -/

/-- `SBP`. -/
def xferSbp (d : Xferd) : BasePtr := d.bitblt.extractLsb' 0 Config.bpBits
/-- `SBW`. -/
def xferSbw (d : Xferd) : BufWidth := d.bitblt.extractLsb' 16 Config.bwBits
/-- `SPSM`. -/
def xferSpsm (d : Xferd) : BitVec 6 := d.bitblt.extractLsb' 24 6
/-- `DBP`. -/
def xferDbp (d : Xferd) : BasePtr := d.bitblt.extractLsb' 32 Config.bpBits
/-- `DBW`. -/
def xferDbw (d : Xferd) : BufWidth := d.bitblt.extractLsb' 48 Config.bwBits
/-- `DPSM`. -/
def xferDpsm (d : Xferd) : BitVec 6 := d.bitblt.extractLsb' 56 6
/-- `SSAX`. -/
def xferSsax (d : Xferd) : Coord := d.trxpos.extractLsb' 0 Config.coordBits
/-- `SSAY`. -/
def xferSsay (d : Xferd) : Coord := d.trxpos.extractLsb' 16 Config.coordBits
/-- `DSAX`. -/
def xferDsax (d : Xferd) : Coord := d.trxpos.extractLsb' 32 Config.coordBits
/-- `DSAY`. -/
def xferDsay (d : Xferd) : Coord := d.trxpos.extractLsb' 48 Config.coordBits
/-- `DIR`. -/
def xferDir (d : Xferd) : BitVec 2 := d.trxpos.extractLsb' 59 2
/-- `RRW`. -/
def xferRrw (d : Xferd) : CoordArg := d.trxreg.extractLsb' 0 (Config.coordBits + 1)
/-- `RRH`. -/
def xferRrh (d : Xferd) : CoordArg := d.trxreg.extractLsb' 32 (Config.coordBits + 1)
/-- `XDIR`. -/
def xferXdir (d : Xferd) : BitVec 2 := d.trxdir.extractLsb' 0 2

/-! ### CLAMPD (30_encoding.md R108) -/

/-- `WMS`. -/
def Clampd.wms (d : Desc) : BitVec 2 := d.extractLsb' 0 2
/-- `WMT`. -/
def Clampd.wmt (d : Desc) : BitVec 2 := d.extractLsb' 2 2
/-- `MINU`. -/
def Clampd.minu (d : Desc) : BitVec 10 := d.extractLsb' 4 10
/-- `MAXU`. -/
def Clampd.maxu (d : Desc) : BitVec 10 := d.extractLsb' 14 10
/-- `MINV`. -/
def Clampd.minv (d : Desc) : BitVec 10 := d.extractLsb' 24 10
/-- `MAXV`. -/
def Clampd.maxv (d : Desc) : BitVec 10 := d.extractLsb' 34 10

/-! ### The `rect` operand (30_encoding.md R110, 43_swizzle_engine.md R284) -/

/-- The rectangle an operand names. -/
def rectOf (r : RectArg) : Rect := ⟨r.left.toNat, r.top.toNat, r.right.toNat, r.bottom.toNat⟩

/-- The checks on a `rect` operand: its order, its area (30_encoding.md R110). -/
def rectShapeChecks (r : Rect) : List (Bool × Cause) :=
  [(decide (r.right < r.left) || decide (r.bottom < r.top), .badRect),
   (decide (r.left = r.right) || decide (r.top = r.bottom), .zeroArea)]

/-- The bound on a `rect` operand (43_swizzle_engine.md R284). -/
def rectBoundCheck (r : Rect) : Bool × Cause :=
  (decide (Config.coordLimit < r.right) || decide (Config.coordLimit < r.bottom), .oob)

/-! ### Addresses (40_address_translator.md R133, R148) -/

/-- `PPR`: pages in one row of pages, the width rounded up (40_address_translator.md R133). -/
def pagesPerRow (f : Format) (bw : Nat) : Nat := (bw * Config.bwUnit + (fmt f).pw - 1) / (fmt f).pw

/-- `PAGEIDX` (40_address_translator.md R148). -/
def pageIndex (f : Format) (x y bw : Nat) : Nat := y / (fmt f).ph * pagesPerRow f bw + x / (fmt f).pw

/-- `BLOCK` (40_address_translator.md R148). -/
def blockAddr (f : Format) (x y bp bw : Nat) : Nat :=
  bp + Config.blocksPerPage * pageIndex f x y bw
    + blkEntry (fmt f).blk (y % (fmt f).ph / (fmt f).bkh) (x % (fmt f).pw / (fmt f).bkw)

/-- `PAGE` (40_address_translator.md R148). -/
def pageAddr (f : Format) (x y bp bw : Nat) : Nat := bp / Config.blocksPerPage + pageIndex f x y bw

/-- `UPB` (40_address_translator.md R148). -/
def unitsPerBlock (f : Format) : Nat := (fmt f).bkw * (fmt f).bkh

/-- `PIXADDR` (40_address_translator.md R148). -/
def pixelAddr (f : Format) (x y bp bw : Nat) : Nat :=
  blockAddr f x y bp bw * unitsPerBlock f + colEntry (fmt f).col (y % (fmt f).bkh) (x % (fmt f).bkw)

/-! ### The storage unit of a pixel (40_address_translator.md R189) -/

/-- The byte address of the storage unit (for class 4, of the byte that holds the nibble). -/
def unitByte (f : Format) (x y bp bw : Nat) : Nat :=
  let a := pixelAddr f x y bp bw
  match (fmt f).cls with
  | .c32 => 4 * a
  | .c16 => 2 * a
  | .c8 => a
  | .c4 => a / 2

/-- How many bytes an access to the unit takes (20_memory.md R66). -/
def unitBytes (f : Format) : Nat :=
  match (fmt f).cls with
  | .c32 => 4
  | .c16 => 2
  | .c8 => 1
  | .c4 => 1

/-- The arena check of a pixel's unit (20_memory.md R62, 60_exceptions.md R405). -/
def inArena (f : Format) (bp bw : Nat) (p : Nat × Nat) : Bool := inBounds (unitByte f p.1 p.2 bp bw) (unitBytes f)

/-- The first bit of `FOOT`, counting the bits of GSMEM from bit 0 of byte 0 on. A pixel's bits are consecutive in that
count, bit `k` of byte `b` being `8 * b + k` (40_address_translator.md R189). -/
def footBit (f : Format) (x y bp bw : Nat) : Nat := (fmt f).cls.bits * pixelAddr f x y bp bw + (fmt f).shift

/-- `FOOT(f, p, ..)` and `FOOT(g, q, ..)` have a bit in common (40_address_translator.md R189). -/
def footsMeet (f : Format) (p : Nat × Nat) (bp bw : Nat) (g : Format) (q : Nat × Nat) (bp' bw' : Nat) : Bool :=
  footBit f p.1 p.2 bp bw < footBit g q.1 q.2 bp' bw' + rawBits g
    && footBit g q.1 q.2 bp' bw' < footBit f p.1 p.2 bp bw + rawBits f

/-! ### The pixel read and write (41_pixel_io.md R193, R194) -/

/-- The shift of a pixel in its unit: the plane's, or the nibble's (41_pixel_io.md R192, R193). -/
def nibbleShift (a : Nat) : Nat := 4 * (a % 2)

/-- The raw value of a pixel whose unit lies in the arena (41_pixel_io.md R193). -/
def readPixel (m : Memory) (f : Format) (x y bp bw : Nat) : Word32 :=
  let a := pixelAddr f x y bp bw
  match (fmt f).cls with
  | .c32 => Memory.vm32 m a >>> (fmt f).shift &&& (fmt f).mask
  | .c16 => (Memory.vm16 m a).setWidth 32
  | .c8 => (Memory.read m a).setWidth 32
  | .c4 => (Memory.read m (a / 2) >>> nibbleShift a &&& 0xF).setWidth 32

/-- GSMEM after the pixel, whose unit lies in the arena, takes the raw value `v` (41_pixel_io.md R194). -/
def writePixel (m : Memory) (f : Format) (x y bp bw : Nat) (v : Word32) : Memory :=
  let a := pixelAddr f x y bp bw
  match (fmt f).cls with
  | .c32 =>
    Memory.write32 m (4 * a)
      (Memory.vm32 m a &&& ~~~((fmt f).mask <<< (fmt f).shift) ||| (v &&& (fmt f).mask) <<< (fmt f).shift)
  | .c16 => Memory.write16 m (2 * a) (v.extractLsb' 0 16)
  | .c8 => Memory.write m a (v.extractLsb' 0 8)
  | .c4 =>
    Memory.write m (a / 2)
      (Memory.read m (a / 2) &&& ~~~((0xF : Byte) <<< nibbleShift a) ||| (v.extractLsb' 0 8 &&& 0xF) <<< nibbleShift a)

/-! ### Linear buffers (43_swizzle_engine.md R282) -/

/-- Byte `i` of a byte string. -/
def byteAt (s : List Byte) (i : Nat) : Byte := s.getD i 0

/-- `LIN(s, T, k)` (43_swizzle_engine.md R282). -/
def lin (s : List Byte) (t k : Nat) : Word32 :=
  match t with
  | 32 => byteAt s (4 * k + 3) ++ byteAt s (4 * k + 2) ++ byteAt s (4 * k + 1) ++ byteAt s (4 * k)
  | 24 => (byteAt s (3 * k + 2) ++ byteAt s (3 * k + 1) ++ byteAt s (3 * k)).setWidth 32
  | 16 => (byteAt s (2 * k + 1) ++ byteAt s (2 * k)).setWidth 32
  | 8 => (byteAt s k).setWidth 32
  | _ => (byteAt s (k / 2) >>> nibbleShift k &&& 0xF).setWidth 32

/-- The first `n` bytes of a value, low byte first. -/
def bytesLE (n : Nat) (v : Word32) : List Byte := (List.range n).map fun i => v.extractLsb' (8 * i) 8

/-- 4-bit elements packed two to a byte, the earlier in the low nibble, an unused high nibble zero
(43_swizzle_engine.md R282, R295). -/
def packNibbles : List Word32 → List Byte
  | [] => []
  | [v] => [v.extractLsb' 0 8 &&& 0xF]
  | v :: w :: rest => (w.extractLsb' 0 4 ++ v.extractLsb' 0 4) :: packNibbles rest

/-- A row of elements packed at width `e` (43_swizzle_engine.md R282, R295). -/
def packRow (e : Nat) (vs : List Word32) : List Byte :=
  if e = 4 then packNibbles vs else vs.flatMap (bytesLE (e / 8))

/-- `ceil_div` (00_scope.md R12). -/
def ceilDiv (a b : Nat) : Nat := (a + b - 1) / b

end Sys2Proof.Machine
end

