-- ==== Sys2Proof/Machine/Address.lean ====
section
/-! DEFINITION. The AddressTranslator operations `PADDR.f`, `BADDR.f`, `PGADDR.f` (40_address_translator.md R130, R149). -/

namespace Sys2Proof.Machine

/-- An address operation: the one check is the buffer width, whatever the result's size
(40_address_translator.md R149 (a), (c)). -/
def addressOp (value : Nat → Nat → Nat → Nat → Nat) (x y : CoordArg) (bp : BasePtr) (bw : BufWidth) (s : State) :
    Answer State :=
  if bw = 0 then s.raise (.cv .badBw) else s.answer (.index (value x.toNat y.toNat bp.toNat bw.toNat))

/-- `PADDR.f` (40_address_translator.md R130, R132). -/
def paddr (f : Format) : CoordArg → CoordArg → BasePtr → BufWidth → State → Answer State := addressOp (pixelAddr f)

/-- `BADDR.f` (40_address_translator.md R132). -/
def baddr (f : Format) : CoordArg → CoordArg → BasePtr → BufWidth → State → Answer State := addressOp (blockAddr f)

/-- `PGADDR.f` (40_address_translator.md R132). -/
def pgaddr (f : Format) : CoordArg → CoordArg → BasePtr → BufWidth → State → Answer State := addressOp (pageAddr f)

/-- `PADDR.CT32` (40_address_translator.md R150). -/
def execPaddrCt32 (x y : CoordArg) (bp : BasePtr) (bw : BufWidth) (s : State) : Answer State :=
  paddr .ct32 x y bp bw s

/-- `PADDR.CT24` (40_address_translator.md R151). -/
def execPaddrCt24 (x y : CoordArg) (bp : BasePtr) (bw : BufWidth) (s : State) : Answer State :=
  paddr .ct24 x y bp bw s

/-- `PADDR.CT16` (40_address_translator.md R152). -/
def execPaddrCt16 (x y : CoordArg) (bp : BasePtr) (bw : BufWidth) (s : State) : Answer State :=
  paddr .ct16 x y bp bw s

/-- `PADDR.CT16S` (40_address_translator.md R153). -/
def execPaddrCt16s (x y : CoordArg) (bp : BasePtr) (bw : BufWidth) (s : State) : Answer State :=
  paddr .ct16s x y bp bw s

/-- `PADDR.T8` (40_address_translator.md R154). -/
def execPaddrT8 (x y : CoordArg) (bp : BasePtr) (bw : BufWidth) (s : State) : Answer State :=
  paddr .t8 x y bp bw s

/-- `PADDR.T4` (40_address_translator.md R155). -/
def execPaddrT4 (x y : CoordArg) (bp : BasePtr) (bw : BufWidth) (s : State) : Answer State :=
  paddr .t4 x y bp bw s

/-- `PADDR.T8H` (40_address_translator.md R156). -/
def execPaddrT8h (x y : CoordArg) (bp : BasePtr) (bw : BufWidth) (s : State) : Answer State :=
  paddr .t8h x y bp bw s

/-- `PADDR.T4HL` (40_address_translator.md R157). -/
def execPaddrT4hl (x y : CoordArg) (bp : BasePtr) (bw : BufWidth) (s : State) : Answer State :=
  paddr .t4hl x y bp bw s

/-- `PADDR.T4HH` (40_address_translator.md R158). -/
def execPaddrT4hh (x y : CoordArg) (bp : BasePtr) (bw : BufWidth) (s : State) : Answer State :=
  paddr .t4hh x y bp bw s

/-- `PADDR.Z32` (40_address_translator.md R159). -/
def execPaddrZ32 (x y : CoordArg) (bp : BasePtr) (bw : BufWidth) (s : State) : Answer State :=
  paddr .z32 x y bp bw s

/-- `PADDR.Z24` (40_address_translator.md R160). -/
def execPaddrZ24 (x y : CoordArg) (bp : BasePtr) (bw : BufWidth) (s : State) : Answer State :=
  paddr .z24 x y bp bw s

/-- `PADDR.Z16` (40_address_translator.md R161). -/
def execPaddrZ16 (x y : CoordArg) (bp : BasePtr) (bw : BufWidth) (s : State) : Answer State :=
  paddr .z16 x y bp bw s

/-- `PADDR.Z16S` (40_address_translator.md R162). -/
def execPaddrZ16s (x y : CoordArg) (bp : BasePtr) (bw : BufWidth) (s : State) : Answer State :=
  paddr .z16s x y bp bw s

/-- `BADDR.CT32` (40_address_translator.md R163). -/
def execBaddrCt32 (x y : CoordArg) (bp : BasePtr) (bw : BufWidth) (s : State) : Answer State :=
  baddr .ct32 x y bp bw s

/-- `BADDR.CT24` (40_address_translator.md R164). -/
def execBaddrCt24 (x y : CoordArg) (bp : BasePtr) (bw : BufWidth) (s : State) : Answer State :=
  baddr .ct24 x y bp bw s

/-- `BADDR.CT16` (40_address_translator.md R165). -/
def execBaddrCt16 (x y : CoordArg) (bp : BasePtr) (bw : BufWidth) (s : State) : Answer State :=
  baddr .ct16 x y bp bw s

/-- `BADDR.CT16S` (40_address_translator.md R166). -/
def execBaddrCt16s (x y : CoordArg) (bp : BasePtr) (bw : BufWidth) (s : State) : Answer State :=
  baddr .ct16s x y bp bw s

/-- `BADDR.T8` (40_address_translator.md R167). -/
def execBaddrT8 (x y : CoordArg) (bp : BasePtr) (bw : BufWidth) (s : State) : Answer State :=
  baddr .t8 x y bp bw s

/-- `BADDR.T4` (40_address_translator.md R168). -/
def execBaddrT4 (x y : CoordArg) (bp : BasePtr) (bw : BufWidth) (s : State) : Answer State :=
  baddr .t4 x y bp bw s

/-- `BADDR.T8H` (40_address_translator.md R169). -/
def execBaddrT8h (x y : CoordArg) (bp : BasePtr) (bw : BufWidth) (s : State) : Answer State :=
  baddr .t8h x y bp bw s

/-- `BADDR.T4HL` (40_address_translator.md R170). -/
def execBaddrT4hl (x y : CoordArg) (bp : BasePtr) (bw : BufWidth) (s : State) : Answer State :=
  baddr .t4hl x y bp bw s

/-- `BADDR.T4HH` (40_address_translator.md R171). -/
def execBaddrT4hh (x y : CoordArg) (bp : BasePtr) (bw : BufWidth) (s : State) : Answer State :=
  baddr .t4hh x y bp bw s

/-- `BADDR.Z32` (40_address_translator.md R172). -/
def execBaddrZ32 (x y : CoordArg) (bp : BasePtr) (bw : BufWidth) (s : State) : Answer State :=
  baddr .z32 x y bp bw s

/-- `BADDR.Z24` (40_address_translator.md R173). -/
def execBaddrZ24 (x y : CoordArg) (bp : BasePtr) (bw : BufWidth) (s : State) : Answer State :=
  baddr .z24 x y bp bw s

/-- `BADDR.Z16` (40_address_translator.md R174). -/
def execBaddrZ16 (x y : CoordArg) (bp : BasePtr) (bw : BufWidth) (s : State) : Answer State :=
  baddr .z16 x y bp bw s

/-- `BADDR.Z16S` (40_address_translator.md R175). -/
def execBaddrZ16s (x y : CoordArg) (bp : BasePtr) (bw : BufWidth) (s : State) : Answer State :=
  baddr .z16s x y bp bw s

/-- `PGADDR.CT32` (40_address_translator.md R176). -/
def execPgaddrCt32 (x y : CoordArg) (bp : BasePtr) (bw : BufWidth) (s : State) : Answer State :=
  pgaddr .ct32 x y bp bw s

/-- `PGADDR.CT24` (40_address_translator.md R177). -/
def execPgaddrCt24 (x y : CoordArg) (bp : BasePtr) (bw : BufWidth) (s : State) : Answer State :=
  pgaddr .ct24 x y bp bw s

/-- `PGADDR.CT16` (40_address_translator.md R178). -/
def execPgaddrCt16 (x y : CoordArg) (bp : BasePtr) (bw : BufWidth) (s : State) : Answer State :=
  pgaddr .ct16 x y bp bw s

/-- `PGADDR.CT16S` (40_address_translator.md R179). -/
def execPgaddrCt16s (x y : CoordArg) (bp : BasePtr) (bw : BufWidth) (s : State) : Answer State :=
  pgaddr .ct16s x y bp bw s

/-- `PGADDR.T8` (40_address_translator.md R180). -/
def execPgaddrT8 (x y : CoordArg) (bp : BasePtr) (bw : BufWidth) (s : State) : Answer State :=
  pgaddr .t8 x y bp bw s

/-- `PGADDR.T4` (40_address_translator.md R181). -/
def execPgaddrT4 (x y : CoordArg) (bp : BasePtr) (bw : BufWidth) (s : State) : Answer State :=
  pgaddr .t4 x y bp bw s

/-- `PGADDR.T8H` (40_address_translator.md R182). -/
def execPgaddrT8h (x y : CoordArg) (bp : BasePtr) (bw : BufWidth) (s : State) : Answer State :=
  pgaddr .t8h x y bp bw s

/-- `PGADDR.T4HL` (40_address_translator.md R183). -/
def execPgaddrT4hl (x y : CoordArg) (bp : BasePtr) (bw : BufWidth) (s : State) : Answer State :=
  pgaddr .t4hl x y bp bw s

/-- `PGADDR.T4HH` (40_address_translator.md R184). -/
def execPgaddrT4hh (x y : CoordArg) (bp : BasePtr) (bw : BufWidth) (s : State) : Answer State :=
  pgaddr .t4hh x y bp bw s

/-- `PGADDR.Z32` (40_address_translator.md R185). -/
def execPgaddrZ32 (x y : CoordArg) (bp : BasePtr) (bw : BufWidth) (s : State) : Answer State :=
  pgaddr .z32 x y bp bw s

/-- `PGADDR.Z24` (40_address_translator.md R186). -/
def execPgaddrZ24 (x y : CoordArg) (bp : BasePtr) (bw : BufWidth) (s : State) : Answer State :=
  pgaddr .z24 x y bp bw s

/-- `PGADDR.Z16` (40_address_translator.md R187). -/
def execPgaddrZ16 (x y : CoordArg) (bp : BasePtr) (bw : BufWidth) (s : State) : Answer State :=
  pgaddr .z16 x y bp bw s

/-- `PGADDR.Z16S` (40_address_translator.md R188). -/
def execPgaddrZ16s (x y : CoordArg) (bp : BasePtr) (bw : BufWidth) (s : State) : Answer State :=
  pgaddr .z16s x y bp bw s

end Sys2Proof.Machine
end

