-- ==== Sys2Proof/Machine/Color.lean ====
section
/-! DEFINITION. The ColorExpander: `EXP16` and `EXP24` (42_color_clut.md R250 to R253). -/

namespace Sys2Proof.Machine

/-- The alpha of a 16-bit colour: the top bit selects the constant; zero is transparent when `AEM` asks for it
(42_color_clut.md R252). -/
def alpha16 (c : BitVec 16) (alphad : Desc) : BitVec 8 :=
  if c.getLsbD 15 then Alphad.ta1 alphad
  else if Alphad.aem alphad && c == 0 then 0
  else Alphad.ta0 alphad

/-- A 5-bit channel widened by a left shift of 3 (42_color_clut.md R252). -/
def widen5 (c : BitVec 5) : BitVec 8 := c ++ (0 : BitVec 3)

/-- `EXP16` of the 16-bit colour `c` (42_color_clut.md R252). -/
def expand16 (c : BitVec 16) (alphad : Desc) : Word32 :=
  alpha16 c alphad ++ widen5 (c.extractLsb' 10 5) ++ widen5 (c.extractLsb' 5 5) ++ widen5 (c.extractLsb' 0 5)

/-- `EXP24` of the 24-bit colour `c` (42_color_clut.md R253). -/
def expand24 (c : BitVec 24) (alphad : Desc) : Word32 :=
  (if Alphad.aem alphad && c == 0 then (0 : BitVec 8) else Alphad.ta0 alphad) ++ c

/-- `EXP16` (42_color_clut.md R252). -/
def execExp16 (v : Word32) (alphad : Desc) (s : State) : Answer State :=
  s.answer (.word (expand16 (v.extractLsb' 0 16) alphad))

/-- `EXP24` (42_color_clut.md R253). -/
def execExp24 (v : Word32) (alphad : Desc) (s : State) : Answer State :=
  s.answer (.word (expand24 (v.extractLsb' 0 24) alphad))

end Sys2Proof.Machine
end

