-- ==== Sys2Proof/Machine/PixelIO.lean ====
section
/-! DEFINITION. PixelIO: `RDPIX.f`, `WRPIX.f`, `RDTEX.f` (41_pixel_io.md R190 to R237). -/

namespace Sys2Proof.Machine

/-- Go on with a pixel operation when the buffer width is not zero and the pixel's unit lies in the arena
(41_pixel_io.md R193, 20_memory.md R62). -/
def pixelChecks (f : Format) (x y : CoordArg) (bp : BasePtr) (bw : BufWidth) : List (Bool × Cause) :=
  [(decide (bw = 0), .badBw), (!inArena f bp.toNat bw.toNat (x.toNat, y.toNat), .oob)]

/-- The conversion of a texel read (41_pixel_io.md R223); an index has at most 8 bits, so `CLUT32` has its entry. -/
def texelOf (f : Format) (clut32 : Palette) (raw : Word32) (alphad : Desc) : Word32 :=
  match f with
  | .ct32 | .z32 => raw
  | .ct24 | .z24 => expand24 (raw.extractLsb' 0 24) alphad
  | .ct16 | .ct16s | .z16 | .z16s => expand16 (raw.extractLsb' 0 16) alphad
  | .t8 | .t8h | .t4 | .t4hl | .t4hh => clut32[(raw.extractLsb' 0 8).toNat]'(raw.extractLsb' 0 8).isLt

/-- A texel read of a pixel whose unit lies in the arena (41_pixel_io.md R223). -/
def readTexel (m : Memory) (clut32 : Palette) (alphad : Desc) (f : Format) (bp bw x y : Nat) : Word32 :=
  texelOf f clut32 (readPixel m f x y bp bw) alphad

/-- `RDPIX.f` (41_pixel_io.md R193). -/
def rdpix (f : Format) (x y : CoordArg) (bp : BasePtr) (bw : BufWidth) (s : State) : Answer State :=
  s.check (pixelChecks f x y bp bw)
    (s.answer (.word (readPixel s.mem f x.toNat y.toNat bp.toNat bw.toNat)))

/-- `WRPIX.f` (41_pixel_io.md R194). -/
def wrpix (f : Format) (x y : CoordArg) (bp : BasePtr) (bw : BufWidth) (v : Word32) (s : State) : Answer State :=
  s.check (pixelChecks f x y bp bw)
    (State.answer { s with mem := writePixel s.mem f x.toNat y.toNat bp.toNat bw.toNat v } .none)

/-- `RDTEX.f` (41_pixel_io.md R222, R223). -/
def rdtex (f : Format) (x y : CoordArg) (bp : BasePtr) (bw : BufWidth) (alphad : Desc) (s : State) : Answer State :=
  s.check (pixelChecks f x y bp bw)
    (s.answer (.word (readTexel s.mem s.clut32 alphad f bp.toNat bw.toNat x.toNat y.toNat)))

/-- `RDPIX.CT32` (41_pixel_io.md R196). -/
def execRdpixCt32 (x y : CoordArg) (bp : BasePtr) (bw : BufWidth) (s : State) : Answer State :=
  rdpix .ct32 x y bp bw s

/-- `RDPIX.CT24` (41_pixel_io.md R197). -/
def execRdpixCt24 (x y : CoordArg) (bp : BasePtr) (bw : BufWidth) (s : State) : Answer State :=
  rdpix .ct24 x y bp bw s

/-- `RDPIX.CT16` (41_pixel_io.md R198). -/
def execRdpixCt16 (x y : CoordArg) (bp : BasePtr) (bw : BufWidth) (s : State) : Answer State :=
  rdpix .ct16 x y bp bw s

/-- `RDPIX.CT16S` (41_pixel_io.md R199). -/
def execRdpixCt16s (x y : CoordArg) (bp : BasePtr) (bw : BufWidth) (s : State) : Answer State :=
  rdpix .ct16s x y bp bw s

/-- `RDPIX.T8` (41_pixel_io.md R200). -/
def execRdpixT8 (x y : CoordArg) (bp : BasePtr) (bw : BufWidth) (s : State) : Answer State :=
  rdpix .t8 x y bp bw s

/-- `RDPIX.T4` (41_pixel_io.md R201). -/
def execRdpixT4 (x y : CoordArg) (bp : BasePtr) (bw : BufWidth) (s : State) : Answer State :=
  rdpix .t4 x y bp bw s

/-- `RDPIX.T8H` (41_pixel_io.md R202). -/
def execRdpixT8h (x y : CoordArg) (bp : BasePtr) (bw : BufWidth) (s : State) : Answer State :=
  rdpix .t8h x y bp bw s

/-- `RDPIX.T4HL` (41_pixel_io.md R203). -/
def execRdpixT4hl (x y : CoordArg) (bp : BasePtr) (bw : BufWidth) (s : State) : Answer State :=
  rdpix .t4hl x y bp bw s

/-- `RDPIX.T4HH` (41_pixel_io.md R204). -/
def execRdpixT4hh (x y : CoordArg) (bp : BasePtr) (bw : BufWidth) (s : State) : Answer State :=
  rdpix .t4hh x y bp bw s

/-- `RDPIX.Z32` (41_pixel_io.md R205). -/
def execRdpixZ32 (x y : CoordArg) (bp : BasePtr) (bw : BufWidth) (s : State) : Answer State :=
  rdpix .z32 x y bp bw s

/-- `RDPIX.Z24` (41_pixel_io.md R206). -/
def execRdpixZ24 (x y : CoordArg) (bp : BasePtr) (bw : BufWidth) (s : State) : Answer State :=
  rdpix .z24 x y bp bw s

/-- `RDPIX.Z16` (41_pixel_io.md R207). -/
def execRdpixZ16 (x y : CoordArg) (bp : BasePtr) (bw : BufWidth) (s : State) : Answer State :=
  rdpix .z16 x y bp bw s

/-- `RDPIX.Z16S` (41_pixel_io.md R208). -/
def execRdpixZ16s (x y : CoordArg) (bp : BasePtr) (bw : BufWidth) (s : State) : Answer State :=
  rdpix .z16s x y bp bw s

/-- `WRPIX.CT32` (41_pixel_io.md R209). -/
def execWrpixCt32 (x y : CoordArg) (bp : BasePtr) (bw : BufWidth) (v : Word32) (s : State) : Answer State :=
  wrpix .ct32 x y bp bw v s

/-- `WRPIX.CT24` (41_pixel_io.md R210). -/
def execWrpixCt24 (x y : CoordArg) (bp : BasePtr) (bw : BufWidth) (v : Word32) (s : State) : Answer State :=
  wrpix .ct24 x y bp bw v s

/-- `WRPIX.CT16` (41_pixel_io.md R211). -/
def execWrpixCt16 (x y : CoordArg) (bp : BasePtr) (bw : BufWidth) (v : Word32) (s : State) : Answer State :=
  wrpix .ct16 x y bp bw v s

/-- `WRPIX.CT16S` (41_pixel_io.md R212). -/
def execWrpixCt16s (x y : CoordArg) (bp : BasePtr) (bw : BufWidth) (v : Word32) (s : State) : Answer State :=
  wrpix .ct16s x y bp bw v s

/-- `WRPIX.T8` (41_pixel_io.md R213). -/
def execWrpixT8 (x y : CoordArg) (bp : BasePtr) (bw : BufWidth) (v : Word32) (s : State) : Answer State :=
  wrpix .t8 x y bp bw v s

/-- `WRPIX.T4` (41_pixel_io.md R214). -/
def execWrpixT4 (x y : CoordArg) (bp : BasePtr) (bw : BufWidth) (v : Word32) (s : State) : Answer State :=
  wrpix .t4 x y bp bw v s

/-- `WRPIX.T8H` (41_pixel_io.md R215). -/
def execWrpixT8h (x y : CoordArg) (bp : BasePtr) (bw : BufWidth) (v : Word32) (s : State) : Answer State :=
  wrpix .t8h x y bp bw v s

/-- `WRPIX.T4HL` (41_pixel_io.md R216). -/
def execWrpixT4hl (x y : CoordArg) (bp : BasePtr) (bw : BufWidth) (v : Word32) (s : State) : Answer State :=
  wrpix .t4hl x y bp bw v s

/-- `WRPIX.T4HH` (41_pixel_io.md R217). -/
def execWrpixT4hh (x y : CoordArg) (bp : BasePtr) (bw : BufWidth) (v : Word32) (s : State) : Answer State :=
  wrpix .t4hh x y bp bw v s

/-- `WRPIX.Z32` (41_pixel_io.md R218). -/
def execWrpixZ32 (x y : CoordArg) (bp : BasePtr) (bw : BufWidth) (v : Word32) (s : State) : Answer State :=
  wrpix .z32 x y bp bw v s

/-- `WRPIX.Z24` (41_pixel_io.md R219). -/
def execWrpixZ24 (x y : CoordArg) (bp : BasePtr) (bw : BufWidth) (v : Word32) (s : State) : Answer State :=
  wrpix .z24 x y bp bw v s

/-- `WRPIX.Z16` (41_pixel_io.md R220). -/
def execWrpixZ16 (x y : CoordArg) (bp : BasePtr) (bw : BufWidth) (v : Word32) (s : State) : Answer State :=
  wrpix .z16 x y bp bw v s

/-- `WRPIX.Z16S` (41_pixel_io.md R221). -/
def execWrpixZ16s (x y : CoordArg) (bp : BasePtr) (bw : BufWidth) (v : Word32) (s : State) : Answer State :=
  wrpix .z16s x y bp bw v s

/-- `RDTEX.CT32` (41_pixel_io.md R224). -/
def execRdtexCt32 (x y : CoordArg) (bp : BasePtr) (bw : BufWidth) (alphad : Desc) (s : State) : Answer State :=
  rdtex .ct32 x y bp bw alphad s

/-- `RDTEX.CT24` (41_pixel_io.md R225). -/
def execRdtexCt24 (x y : CoordArg) (bp : BasePtr) (bw : BufWidth) (alphad : Desc) (s : State) : Answer State :=
  rdtex .ct24 x y bp bw alphad s

/-- `RDTEX.CT16` (41_pixel_io.md R226). -/
def execRdtexCt16 (x y : CoordArg) (bp : BasePtr) (bw : BufWidth) (alphad : Desc) (s : State) : Answer State :=
  rdtex .ct16 x y bp bw alphad s

/-- `RDTEX.CT16S` (41_pixel_io.md R227). -/
def execRdtexCt16s (x y : CoordArg) (bp : BasePtr) (bw : BufWidth) (alphad : Desc) (s : State) : Answer State :=
  rdtex .ct16s x y bp bw alphad s

/-- `RDTEX.T8` (41_pixel_io.md R228). -/
def execRdtexT8 (x y : CoordArg) (bp : BasePtr) (bw : BufWidth) (alphad : Desc) (s : State) : Answer State :=
  rdtex .t8 x y bp bw alphad s

/-- `RDTEX.T4` (41_pixel_io.md R229). -/
def execRdtexT4 (x y : CoordArg) (bp : BasePtr) (bw : BufWidth) (alphad : Desc) (s : State) : Answer State :=
  rdtex .t4 x y bp bw alphad s

/-- `RDTEX.T8H` (41_pixel_io.md R230). -/
def execRdtexT8h (x y : CoordArg) (bp : BasePtr) (bw : BufWidth) (alphad : Desc) (s : State) : Answer State :=
  rdtex .t8h x y bp bw alphad s

/-- `RDTEX.T4HL` (41_pixel_io.md R231). -/
def execRdtexT4hl (x y : CoordArg) (bp : BasePtr) (bw : BufWidth) (alphad : Desc) (s : State) : Answer State :=
  rdtex .t4hl x y bp bw alphad s

/-- `RDTEX.T4HH` (41_pixel_io.md R232). -/
def execRdtexT4hh (x y : CoordArg) (bp : BasePtr) (bw : BufWidth) (alphad : Desc) (s : State) : Answer State :=
  rdtex .t4hh x y bp bw alphad s

/-- `RDTEX.Z32` (41_pixel_io.md R233). -/
def execRdtexZ32 (x y : CoordArg) (bp : BasePtr) (bw : BufWidth) (alphad : Desc) (s : State) : Answer State :=
  rdtex .z32 x y bp bw alphad s

/-- `RDTEX.Z24` (41_pixel_io.md R234). -/
def execRdtexZ24 (x y : CoordArg) (bp : BasePtr) (bw : BufWidth) (alphad : Desc) (s : State) : Answer State :=
  rdtex .z24 x y bp bw alphad s

/-- `RDTEX.Z16` (41_pixel_io.md R235). -/
def execRdtexZ16 (x y : CoordArg) (bp : BasePtr) (bw : BufWidth) (alphad : Desc) (s : State) : Answer State :=
  rdtex .z16 x y bp bw alphad s

/-- `RDTEX.Z16S` (41_pixel_io.md R236). -/
def execRdtexZ16s (x y : CoordArg) (bp : BasePtr) (bw : BufWidth) (alphad : Desc) (s : State) : Answer State :=
  rdtex .z16s x y bp bw alphad s

end Sys2Proof.Machine
end

