-- ==== Sys2Proof/Machine/Clut.lean ====
section
/-! DEFINITION. The ClutManager: `CLUTWR`, `CLUTRD32`, `CLUTINV` (42_color_clut.md R255 to R269). -/

namespace Sys2Proof.Machine

/-- The signature of a `CLUTWR` request (42_color_clut.md R259). -/
def clutSig (n : Nat) (texd clutd : Desc) : ClutSig where
  pal := n
  cpsm := Texd.cpsm texd
  cbp := Texd.cbp texd
  csm := Texd.csm texd
  csa := Texd.csa texd
  cbw := if Texd.csm texd then Clutd.cbw clutd else 0
  cou := if Texd.csm texd then Clutd.cou clutd else 0
  cov := if Texd.csm texd then Clutd.cov clutd else 0

/-- The buffer width palette entries are read with: 1 for `CSM = 0`, `CBW` for `CSM = 1` (42_color_clut.md R263, R264). -/
def srcBw (texd clutd : Desc) : Nat := if Texd.csm texd then (Clutd.cbw clutd).toNat else 1

/-- The pixel of `SRCPOS(i)` (42_color_clut.md R263, R264). -/
def srcPixel (n : Nat) (texd clutd : Desc) (i : Nat) : Nat × Nat :=
  if Texd.csm texd then ((Clutd.cou clutd).toNat * 16 + i, (Clutd.cov clutd).toNat) else csm0Pixel n i

/-- The palette entry that GSMEM holds at `SRCPOS(i)` (42_color_clut.md R260). -/
def srcEntry (m : Memory) (cpf : Format) (n : Nat) (texd clutd : Desc) (i : Nat) : Word32 :=
  readPixel m cpf (srcPixel n texd clutd i).1 (srcPixel n texd clutd i).2 (Texd.cbp texd).toNat (srcBw texd clutd)

/-- Every source unit of the palette lies in the arena (42_color_clut.md R260). -/
def srcInArena (cpf : Format) (n : Nat) (texd clutd : Desc) : Bool :=
  (List.range n).all fun i => inArena cpf (Texd.cbp texd).toNat (srcBw texd clutd) (srcPixel n texd clutd i)

/-- `CLUT` after `n` palette entries are stored from `b` on: entry `i` at `b + i`, or split, its low half at `b + i` and
its high half one bank above; no other entry changes (42_color_clut.md R257, R260, R262). -/
def clutStore (clut : ClutMemory) (wide : Bool) (b n : Nat) (entry : Nat → Word32) : ClutMemory :=
  Vector.ofFn fun k : Fin Config.clutEntries =>
    if b ≤ k.val && k.val < b + n then (entry (k.val - b)).extractLsb' 0 16
    else if wide && b + Config.clutBank ≤ k.val && k.val < b + Config.clutBank + n then
      (entry (k.val - b - Config.clutBank)).extractLsb' 16 16
    else clut[k]

/-- `CLUT[i]`. -/
def clutAt (clut : ClutMemory) (i : Nat) : BitVec 16 := clut[i]?.getD 0

/-- Palette entry `i` of a palette at base `b` as a canonical colour (42_color_clut.md R266). -/
def clutColour (clut : ClutMemory) (wide : Bool) (b : Nat) (alphad : Desc) (i : Nat) : Word32 :=
  if wide then clutAt clut (b + i + Config.clutBank) ++ clutAt clut (b + i) else expand16 (clutAt clut (b + i)) alphad

/-- `CLUT32` after `CLUTRD32`: entries `n` and above keep their contents (42_color_clut.md R266). -/
def clut32Store (clut32 : Palette) (n : Nat) (colour : Nat → Word32) : Palette :=
  Vector.ofFn fun k : Fin Config.clut32Entries => if k.val < n then colour k.val else clut32[k]

/-- The palette a request names, as its entry count and palette format, or the first check of 42_color_clut.md R261 and
R267 that fails: `BAD_PSM`, `BAD_PAL`, `BAD_CPSM`, `BAD_CSA`. -/
def paletteOf (texd : Desc) : Except Cause (Nat × Format) :=
  match formatOf (Texd.psm texd) with
  | none => .error .badPsm
  | some f =>
    if (fmt f).pal = 0 then .error .badPal
    else match cpsmFormat (Texd.cpsm texd) with
      | none => .error .badCpsm
      | some cpf =>
        if clutBaseLegal cpf (Texd.csa texd) (fmt f).pal then .ok ((fmt f).pal, cpf) else .error .badCsa

/-- The state after a rebuild (42_color_clut.md R260). -/
def clutRebuilt (s : State) (n : Nat) (cpf : Format) (texd clutd : Desc) : State :=
  { s with
    clut := clutStore s.clut (wideEntry cpf) (clutBase (Texd.csa texd)) n (srcEntry s.mem cpf n texd clutd)
    clutSnap := some (clutSig n texd clutd)
    clutDirty := false }

/-- `CLUTWR` (42_color_clut.md R260, R261). -/
def execClutwr (texd clutd : Desc) (s : State) : Answer State :=
  match paletteOf texd with
  | .error c => s.raise (.cv c)
  | .ok (n, cpf) =>
    if Texd.csm texd = true ∧ Clutd.cbw clutd = 0 then s.raise (.cv .badBw)
    else if s.clutDirty = false ∧ s.clutSnap = some (clutSig n texd clutd) then s.answer .none
    else if srcInArena cpf n texd clutd then State.answer (clutRebuilt s n cpf texd clutd) .none
    else s.raise (.cv .oob)

/-- `CLUT32` after a `CLUTRD32` of `n` entries (42_color_clut.md R266). -/
def clut32Rebuilt (s : State) (n : Nat) (cpf : Format) (texd alphad : Desc) : Palette :=
  clut32Store s.clut32 n (clutColour s.clut (wideEntry cpf) (clutBase (Texd.csa texd)) alphad)

/-- `CLUTRD32` (42_color_clut.md R266, R267). -/
def execClutrd32 (texd alphad : Desc) (s : State) : Answer State :=
  match paletteOf texd with
  | .error c => s.raise (.cv c)
  | .ok (n, cpf) =>
    State.answer { s with clut32 := clut32Rebuilt s n cpf texd alphad } (.palette (clut32Rebuilt s n cpf texd alphad))

/-- `CLUTINV` (42_color_clut.md R268). -/
def execClutinv (s : State) : Answer State := State.answer { s with clutDirty := true } .none

end Sys2Proof.Machine
end

