-- ==== Sys2Proof/Machine/Swizzle.lean ====
section
/-! DEFINITION. The SwizzleEngine: `SWZIN.f`, `UNSWZ.f`, `XFERMM` (43_swizzle_engine.md). The per-pixel path alone: the
fast paths are required to be unobservable (R298, R300; log entry 16). -/

namespace Sys2Proof.Machine

/-! ### The stepping function (43_swizzle_engine.md R286) -/

/-- A rectangle as a walk: origin `(x0, y0)`, width `w`, height `h`. -/
structure Walk where
  x0 : Nat
  y0 : Nat
  w : Nat
  h : Nat
  deriving DecidableEq, Repr

/-- `STEP`. -/
def Walk.step (k : Walk) (p : Nat × Nat) : Nat × Nat :=
  if p.1 + 1 < k.x0 + k.w then (p.1 + 1, p.2) else (k.x0, p.2 + 1)

/-- `FIRST`. -/
def Walk.first (k : Walk) : Nat × Nat := (k.x0, k.y0)

/-- `END`. -/
def Walk.stop (k : Walk) : Nat × Nat := (k.x0, k.y0 + k.h)

/-- `REMAINING`. -/
def Walk.remaining (k : Walk) (p : Nat × Nat) : Nat := (k.y0 + k.h - p.2) * k.w - (p.1 - k.x0)

/-- "Inside the walk". -/
def Walk.inside (k : Walk) (p : Nat × Nat) : Bool :=
  k.x0 ≤ p.1 && p.1 < k.x0 + k.w && k.y0 ≤ p.2 && p.2 < k.y0 + k.h

/-- The first `n` positions from `p` on. -/
def Walk.positions (k : Walk) : Nat → Nat × Nat → List (Nat × Nat)
  | 0, _ => []
  | n + 1, p => p :: Walk.positions k n (k.step p)

/-- The position `n` steps after `p`. -/
def Walk.after (k : Walk) : Nat → Nat × Nat → Nat × Nat
  | 0, p => p
  | n + 1, p => Walk.after k n (k.step p)

/-! ### The checks of a transfer descriptor (30_encoding.md R105) -/

/-- The first three checks: the area, the direction, the raster order. -/
def xferChecks (d : Xferd) (dir : BitVec 2) : List (Bool × Cause) :=
  [(decide (xferRrw d = 0) || decide (xferRrh d = 0), .zeroArea),
   (decide (xferXdir d ≠ dir), .badDir),
   (decide (xferDir d ≠ 0), .badDir)]

/-- A rectangle of the descriptor's size passes `2^COORD_BITS` (30_encoding.md R105, 43_swizzle_engine.md R284). -/
def xferPasses (d : Xferd) (x y : Coord) : Bool :=
  decide (Config.coordLimit < x.toNat + (xferRrw d).toNat) || decide (Config.coordLimit < y.toNat + (xferRrh d).toNat)

/-! ### `SWZIN.f` (43_swizzle_engine.md R290) -/

/-- The destination rectangle. -/
def destWalk (d : Xferd) : Walk := ⟨(xferDsax d).toNat, (xferDsay d).toNat, (xferRrw d).toNat, (xferRrh d).toNat⟩

/-- The checks of `SWZIN.f` on its descriptor, in order (30_encoding.md R105, 43_swizzle_engine.md R290). -/
def swzinChecks (f : Format) (d : Xferd) : List (Bool × Cause) :=
  xferChecks d 0 ++
    [(decide (formatOf (xferDpsm d) ≠ some f), .badPsm),
     (xferPasses d (xferDsax d) (xferDsay d), .oob),
     (decide (xferDbw d = 0), .badBw)]

/-- Where a `SWZIN` starts: at the rectangle's origin, or at `CUR` when it resumes a transfer in flight whose cursor lies
inside the walk (43_swizzle_engine.md R290, R291). -/
def swzinStart (k : Walk) (resume : Bool) (cur : Cursor) : Option (Nat × Nat) :=
  if resume then
    if cur.active && k.inside (cur.x.toNat, cur.y.toNat) then some (cur.x.toNat, cur.y.toNat) else none
  else some k.first

/-- `npix`: whole pixels, as many as the rectangle has room for (43_swizzle_engine.md R290, R292). -/
def swzinCount (f : Format) (k : Walk) (p : Nat × Nat) (src : List Byte) : Nat :=
  min (k.remaining p) (8 * src.length / (fmt f).trbpp)

/-- GSMEM after the elements of `src` from `k` on are written to these pixels, one after another
(43_swizzle_engine.md R290, R293). -/
def swzinWrite (f : Format) (bp bw : Nat) (src : List Byte) : List (Nat × Nat) → Nat → Memory → Memory
  | [], _, m => m
  | p :: ps, k, m => swzinWrite f bp bw src ps (k + 1) (writePixel m f p.1 p.2 bp bw (lin src (fmt f).trbpp k))

/-- `SWZIN.f` once its start is known (43_swizzle_engine.md R285, R290). -/
def swzinFrom (f : Format) (d : Xferd) (src : List Byte) (s : State) (p : Nat × Nat) : Answer State :=
  let k := destWalk d
  let n := swzinCount f k p src
  let ps := k.positions n p
  let cur := cursorAfter (k.after n p) k.stop
  if ps.all (inArena f (xferDbp d).toNat (xferDbw d).toNat) then
    State.answer { s with mem := swzinWrite f (xferDbp d).toNat (xferDbw d).toNat src ps 0 s.mem, cur := cur }
      (.transfer cur.x cur.y cur.active (ceilDiv (n * (fmt f).trbpp) 8))
  else s.raise (.cv .oob)

/-- `SWZIN.f` (43_swizzle_engine.md R290). -/
def swzin (f : Format) (xferd : Xferd) (resume : Bool) (src : List Byte) (s : State) : Answer State :=
  s.check (swzinChecks f xferd)
    (match swzinStart (destWalk xferd) resume s.cur with
    | none => s.raise (.cv .badCur)
    | some p => swzinFrom f xferd src s p)

/-! ### `UNSWZ.f` (43_swizzle_engine.md R295, R296) -/

/-- The element width of a mode, where the format allows the mode (43_swizzle_engine.md R296). -/
def modeWidth (f : Format) (mode : BitVec 2) : Option Nat :=
  match mode.toNat with
  | 0 => some (fmt f).trbpp
  | 1 => some 32
  | 2 => if (fmt f).pal = 0 then none else some 8
  | _ => none

/-- `VALUE(x, y)` of a mode (43_swizzle_engine.md R296). -/
def unswzValue (s : State) (f : Format) (bp : BasePtr) (bw : BufWidth) (mode : BitVec 2) (alphad : Desc) (x y : Nat) :
    Word32 :=
  if mode = 1 then readTexel s.mem s.clut32 alphad f bp.toNat bw.toNat x y
  else readPixel s.mem f x y bp.toNat bw.toNat

/-- The checks of `UNSWZ.f` before its mode, in order (43_swizzle_engine.md R295). -/
def unswzChecks (r : Rect) (bw : BufWidth) : List (Bool × Cause) :=
  rectShapeChecks r ++ [rectBoundCheck r, (decide (bw = 0), .badBw)]

/-- The rows of the result (43_swizzle_engine.md R295). -/
def unswzRows (s : State) (f : Format) (r : Rect) (bp : BasePtr) (bw : BufWidth) (mode : BitVec 2) (alphad : Desc)
    (e : Nat) : List (List Byte) :=
  (r.tabulate (unswzValue s f bp bw mode alphad)).map (packRow e)

/-- `UNSWZ.f` (43_swizzle_engine.md R295). -/
def unswz (f : Format) (rect : RectArg) (bp : BasePtr) (bw : BufWidth) (mode : BitVec 2) (alphad : Desc) (pitch : Word32)
    (s : State) : Answer State :=
  s.check (unswzChecks (rectOf rect) bw)
    (match modeWidth f mode with
    | none => s.raise (.cv .badMode)
    | some e =>
      s.check
        [(decide (pitch.toNat < ceilDiv (((rectOf rect).right - (rectOf rect).left) * e) 8), .badPitch),
         (!(rectOf rect).pixels.all (inArena f bp.toNat bw.toNat), .oob)]
        (s.answer (.rows pitch.toNat (unswzRows s f (rectOf rect) bp bw mode alphad e))))

/-! ### `XFERMM` (43_swizzle_engine.md R328) -/

/-- The offsets `(i, j)` of a transfer's pixels, in raster order. -/
def xferOffsets (d : Xferd) : List (Nat × Nat) := Rect.pixels ⟨0, 0, (xferRrw d).toNat, (xferRrh d).toNat⟩

/-- The source pixel at an offset. -/
def xferSource (d : Xferd) (o : Nat × Nat) : Nat × Nat := ((xferSsax d).toNat + o.1, (xferSsay d).toNat + o.2)

/-- The destination pixel at an offset. -/
def xferDest (d : Xferd) (o : Nat × Nat) : Nat × Nat := ((xferDsax d).toNat + o.1, (xferDsay d).toNat + o.2)

/-- The checks of `XFERMM` once both formats are known, in order (30_encoding.md R105, 43_swizzle_engine.md R285, R328). -/
def xfermmChecks (f g : Format) (d : Xferd) : List (Bool × Cause) :=
  [(xferPasses d (xferSsax d) (xferSsay d) || xferPasses d (xferDsax d) (xferDsay d), .oob),
   (decide (xferSbw d = 0) || decide (xferDbw d = 0), .badBw),
   (decide ((fmt f).trbpp ≠ (fmt g).trbpp), .badPsm),
   (!(xferOffsets d).all fun o => inArena f (xferSbp d).toNat (xferSbw d).toNat (xferSource d o)
      && inArena g (xferDbp d).toNat (xferDbw d).toNat (xferDest d o), .oob)]

/-- GSMEM after one pixel is copied. -/
def copyPixel (f g : Format) (d : Xferd) (m : Memory) (o : Nat × Nat) : Memory :=
  writePixel m g (xferDest d o).1 (xferDest d o).2 (xferDbp d).toNat (xferDbw d).toNat
    (readPixel m f (xferSource d o).1 (xferSource d o).2 (xferSbp d).toNat (xferSbw d).toNat)

/-- `XFERMM`: a later read sees an earlier write (43_swizzle_engine.md R328). -/
def execXfermm (xferd : Xferd) (s : State) : Answer State :=
  s.check (xferChecks xferd 2)
    (match formatOf (xferSpsm xferd), formatOf (xferDpsm xferd) with
    | some f, some g =>
      s.check (xfermmChecks f g xferd)
        (State.answer { s with mem := (xferOffsets xferd).foldl (copyPixel f g xferd) s.mem } .none)
    | _, _ => s.raise (.cv .badPsm))

/-- `SWZIN.CT32` (43_swizzle_engine.md R301). -/
def execSwzinCt32 (xferd : Xferd) (resume : Bool) (src : List Byte) (s : State) : Answer State :=
  swzin .ct32 xferd resume src s

/-- `SWZIN.CT24` (43_swizzle_engine.md R302). -/
def execSwzinCt24 (xferd : Xferd) (resume : Bool) (src : List Byte) (s : State) : Answer State :=
  swzin .ct24 xferd resume src s

/-- `SWZIN.CT16` (43_swizzle_engine.md R303). -/
def execSwzinCt16 (xferd : Xferd) (resume : Bool) (src : List Byte) (s : State) : Answer State :=
  swzin .ct16 xferd resume src s

/-- `SWZIN.CT16S` (43_swizzle_engine.md R304). -/
def execSwzinCt16s (xferd : Xferd) (resume : Bool) (src : List Byte) (s : State) : Answer State :=
  swzin .ct16s xferd resume src s

/-- `SWZIN.T8` (43_swizzle_engine.md R305). -/
def execSwzinT8 (xferd : Xferd) (resume : Bool) (src : List Byte) (s : State) : Answer State :=
  swzin .t8 xferd resume src s

/-- `SWZIN.T4` (43_swizzle_engine.md R306). -/
def execSwzinT4 (xferd : Xferd) (resume : Bool) (src : List Byte) (s : State) : Answer State :=
  swzin .t4 xferd resume src s

/-- `SWZIN.T8H` (43_swizzle_engine.md R307). -/
def execSwzinT8h (xferd : Xferd) (resume : Bool) (src : List Byte) (s : State) : Answer State :=
  swzin .t8h xferd resume src s

/-- `SWZIN.T4HL` (43_swizzle_engine.md R308). -/
def execSwzinT4hl (xferd : Xferd) (resume : Bool) (src : List Byte) (s : State) : Answer State :=
  swzin .t4hl xferd resume src s

/-- `SWZIN.T4HH` (43_swizzle_engine.md R309). -/
def execSwzinT4hh (xferd : Xferd) (resume : Bool) (src : List Byte) (s : State) : Answer State :=
  swzin .t4hh xferd resume src s

/-- `SWZIN.Z32` (43_swizzle_engine.md R310). -/
def execSwzinZ32 (xferd : Xferd) (resume : Bool) (src : List Byte) (s : State) : Answer State :=
  swzin .z32 xferd resume src s

/-- `SWZIN.Z24` (43_swizzle_engine.md R311). -/
def execSwzinZ24 (xferd : Xferd) (resume : Bool) (src : List Byte) (s : State) : Answer State :=
  swzin .z24 xferd resume src s

/-- `SWZIN.Z16` (43_swizzle_engine.md R312). -/
def execSwzinZ16 (xferd : Xferd) (resume : Bool) (src : List Byte) (s : State) : Answer State :=
  swzin .z16 xferd resume src s

/-- `SWZIN.Z16S` (43_swizzle_engine.md R313). -/
def execSwzinZ16s (xferd : Xferd) (resume : Bool) (src : List Byte) (s : State) : Answer State :=
  swzin .z16s xferd resume src s

/-- `UNSWZ.CT32` (43_swizzle_engine.md R314). -/
def execUnswzCt32 (rect : RectArg) (bp : BasePtr) (bw : BufWidth) (mode : BitVec 2) (alphad : Desc) (pitch : Word32) (s : State) : Answer State :=
  unswz .ct32 rect bp bw mode alphad pitch s

/-- `UNSWZ.CT24` (43_swizzle_engine.md R315). -/
def execUnswzCt24 (rect : RectArg) (bp : BasePtr) (bw : BufWidth) (mode : BitVec 2) (alphad : Desc) (pitch : Word32) (s : State) : Answer State :=
  unswz .ct24 rect bp bw mode alphad pitch s

/-- `UNSWZ.CT16` (43_swizzle_engine.md R316). -/
def execUnswzCt16 (rect : RectArg) (bp : BasePtr) (bw : BufWidth) (mode : BitVec 2) (alphad : Desc) (pitch : Word32) (s : State) : Answer State :=
  unswz .ct16 rect bp bw mode alphad pitch s

/-- `UNSWZ.CT16S` (43_swizzle_engine.md R317). -/
def execUnswzCt16s (rect : RectArg) (bp : BasePtr) (bw : BufWidth) (mode : BitVec 2) (alphad : Desc) (pitch : Word32) (s : State) : Answer State :=
  unswz .ct16s rect bp bw mode alphad pitch s

/-- `UNSWZ.T8` (43_swizzle_engine.md R318). -/
def execUnswzT8 (rect : RectArg) (bp : BasePtr) (bw : BufWidth) (mode : BitVec 2) (alphad : Desc) (pitch : Word32) (s : State) : Answer State :=
  unswz .t8 rect bp bw mode alphad pitch s

/-- `UNSWZ.T4` (43_swizzle_engine.md R319). -/
def execUnswzT4 (rect : RectArg) (bp : BasePtr) (bw : BufWidth) (mode : BitVec 2) (alphad : Desc) (pitch : Word32) (s : State) : Answer State :=
  unswz .t4 rect bp bw mode alphad pitch s

/-- `UNSWZ.T8H` (43_swizzle_engine.md R320). -/
def execUnswzT8h (rect : RectArg) (bp : BasePtr) (bw : BufWidth) (mode : BitVec 2) (alphad : Desc) (pitch : Word32) (s : State) : Answer State :=
  unswz .t8h rect bp bw mode alphad pitch s

/-- `UNSWZ.T4HL` (43_swizzle_engine.md R321). -/
def execUnswzT4hl (rect : RectArg) (bp : BasePtr) (bw : BufWidth) (mode : BitVec 2) (alphad : Desc) (pitch : Word32) (s : State) : Answer State :=
  unswz .t4hl rect bp bw mode alphad pitch s

/-- `UNSWZ.T4HH` (43_swizzle_engine.md R322). -/
def execUnswzT4hh (rect : RectArg) (bp : BasePtr) (bw : BufWidth) (mode : BitVec 2) (alphad : Desc) (pitch : Word32) (s : State) : Answer State :=
  unswz .t4hh rect bp bw mode alphad pitch s

/-- `UNSWZ.Z32` (43_swizzle_engine.md R323). -/
def execUnswzZ32 (rect : RectArg) (bp : BasePtr) (bw : BufWidth) (mode : BitVec 2) (alphad : Desc) (pitch : Word32) (s : State) : Answer State :=
  unswz .z32 rect bp bw mode alphad pitch s

/-- `UNSWZ.Z24` (43_swizzle_engine.md R324). -/
def execUnswzZ24 (rect : RectArg) (bp : BasePtr) (bw : BufWidth) (mode : BitVec 2) (alphad : Desc) (pitch : Word32) (s : State) : Answer State :=
  unswz .z24 rect bp bw mode alphad pitch s

/-- `UNSWZ.Z16` (43_swizzle_engine.md R325). -/
def execUnswzZ16 (rect : RectArg) (bp : BasePtr) (bw : BufWidth) (mode : BitVec 2) (alphad : Desc) (pitch : Word32) (s : State) : Answer State :=
  unswz .z16 rect bp bw mode alphad pitch s

/-- `UNSWZ.Z16S` (43_swizzle_engine.md R326). -/
def execUnswzZ16s (rect : RectArg) (bp : BasePtr) (bw : BufWidth) (mode : BitVec 2) (alphad : Desc) (pitch : Word32) (s : State) : Answer State :=
  unswz .z16s rect bp bw mode alphad pitch s

end Sys2Proof.Machine
end

