-- ==== Sys2Proof/Machine/HostOps.lean ====
section
/-! DEFINITION. `NOP`, the raw views, `SAVE` and `RESTORE` (45_host_ops.md). -/

namespace Sys2Proof.Machine

/-- `NOP` (45_host_ops.md R386). -/
def execNop (s : State) : Answer State := s.answer .none

/-- Go on with a raw access to element `idx` of the view with elements of `n` bytes, when the arena has it
(45_host_ops.md R380 to R385). -/
def viewChecks (n : Nat) (idx : Word32) : List (Bool × Cause) := [(decide (Config.vmSize / n ≤ idx.toNat), .oob)]

/-- `VMRD8` (45_host_ops.md R380). -/
def execVmrd8 (idx : Word32) (s : State) : Answer State :=
  s.check (viewChecks 1 idx) (s.answer (.byte (Memory.read s.mem idx.toNat)))

/-- `VMRD16` (45_host_ops.md R381). -/
def execVmrd16 (idx : Word32) (s : State) : Answer State :=
  s.check (viewChecks 2 idx) (s.answer (.half (Memory.vm16 s.mem idx.toNat)))

/-- `VMRD32` (45_host_ops.md R382). -/
def execVmrd32 (idx : Word32) (s : State) : Answer State :=
  s.check (viewChecks 4 idx) (s.answer (.word (Memory.vm32 s.mem idx.toNat)))

/-- `VMWR8` (45_host_ops.md R383). -/
def execVmwr8 (idx v : Word32) (s : State) : Answer State :=
  s.check (viewChecks 1 idx)
    (State.answer { s with mem := Memory.write s.mem idx.toNat (v.extractLsb' 0 8) } .none)

/-- `VMWR16` (45_host_ops.md R384). -/
def execVmwr16 (idx v : Word32) (s : State) : Answer State :=
  s.check (viewChecks 2 idx)
    (State.answer { s with mem := Memory.write16 s.mem (2 * idx.toNat) (v.extractLsb' 0 16) } .none)

/-- `VMWR32` (45_host_ops.md R385). -/
def execVmwr32 (idx v : Word32) (s : State) : Answer State :=
  s.check (viewChecks 4 idx) (State.answer { s with mem := Memory.write32 s.mem (4 * idx.toNat) v } .none)

/-! ### `SAVE` and `RESTORE` (45_host_ops.md R387 to R389) -/

/-- Where the cursor lies in an image (45_host_ops.md R387). -/
def cursorOffset : Nat := Config.vmSize + 2 * Config.clutEntries

/-- `IMAGE_SIZE` (45_host_ops.md R387). -/
def imageSize : Nat := cursorOffset + 5

/-- A 16-bit value, low byte first. -/
def halfBytes (v : BitVec 16) : List Byte := [v.extractLsb' 0 8, v.extractLsb' 8 8]

/-- The cursor's five bytes; its position is 0 when it is inactive (45_host_ops.md R387). -/
def cursorBytes (c : Cursor) : List Byte :=
  if c.active then 1 :: halfBytes (c.x.setWidth 16) ++ halfBytes (c.y.setWidth 16) else [0, 0, 0, 0, 0]

/-- The image of the state (45_host_ops.md R387). -/
def saveImage (s : State) : List Byte :=
  (List.range Config.vmSize).map (Memory.read s.mem) ++ s.clut.toList.flatMap halfBytes ++ cursorBytes s.cur

/-- `SAVE` (45_host_ops.md R388). -/
def execSave (s : State) : Answer State := s.answer (.image (saveImage s))

/-- The 16-bit value at byte `i` of an image. -/
def imageHalf (image : List Byte) (i : Nat) : BitVec 16 := byteAt image (i + 1) ++ byteAt image i

/-- The image holds a cursor that `RESTORE` refuses (45_host_ops.md R389). -/
def badCursor (image : List Byte) : Bool :=
  let a := (byteAt image cursorOffset).toNat
  let x := (imageHalf image (cursorOffset + 1)).toNat
  let y := (imageHalf image (cursorOffset + 3)).toNat
  decide (1 < a) || decide (Config.coordLimit ≤ x) || decide (Config.coordLimit ≤ y)
    || (decide (a = 0) && (decide (x ≠ 0) || decide (y ≠ 0)))

/-- The cursor that an image holds (45_host_ops.md R389). -/
def restoredCursor (image : List Byte) : Cursor :=
  ⟨(imageHalf image (cursorOffset + 1)).setWidth Config.coordBits,
    (imageHalf image (cursorOffset + 3)).setWidth Config.coordBits, decide (byteAt image cursorOffset = 1)⟩

/-- The state that an image restores: every derived element has its reset value, `CLUT32` a fresh free value
(45_host_ops.md R389; log entry 6). -/
def restored (s : State) (image : List Byte) : State :=
  { s with
    mem := Memory.ofBytes (image.take Config.vmSize)
    clut := Vector.ofFn fun i : Fin Config.clutEntries => imageHalf image (Config.vmSize + 2 * i.val)
    cur := restoredCursor image
    tc := []
    clutSnap := none
    clutDirty := true
    clut32 := Vector.ofFn fun i : Fin Config.clut32Entries => Config.clut32Restored s.free i.val
    free := s.free + 1 }

/-- `RESTORE` (45_host_ops.md R389). -/
def execRestore (image : List Byte) (s : State) : Answer State :=
  if image.length = imageSize ∧ badCursor image = false then State.answer (restored s image) .none
  else s.raise (.cv .badImage)

end Sys2Proof.Machine
end

