-- ==== Sys2Proof/Machine/TexCache.lean ====
section
/-! DEFINITION. The TextureCache (44_texture_cache.md). -/

namespace Sys2Proof.Machine

/-! ### Entries -/

/-- `is_rt` (10_state.md R36). -/
def Entry.isRt (e : Entry) : Bool :=
  match e.content with
  | .bitmap _ => false
  | .surface _ => true

/-- `W = 2^tw`. -/
def Entry.width (e : Entry) : Nat := 2 ^ e.key.tw.toNat

/-- `H = 2^th`. -/
def Entry.height (e : Entry) : Nat := 2 ^ e.key.th.toNat

/-- `[0, W) × [0, H)`. -/
def Entry.area (e : Entry) : Rect := ⟨0, 0, e.width, e.height⟩

/-- The rows of the bitmap; a render target has none (44_texture_cache.md R348). -/
def Entry.rows (e : Entry) : Pixels :=
  match e.content with
  | .bitmap rows => rows
  | .surface _ => []

/-- What the backend receives of a texture: the pitch of the 32-bit buffer, `4 * 2^tw` bytes, the rows that are valid, and
where they lie (30_encoding.md R112). -/
def Entry.output (e : Entry) : Result := .texture (4 * e.width) e.rows e.valid

/-- A texel of a list of rows. -/
def texelAt (rows : Pixels) (x y : Nat) : Word32 := ((rows[y]?.getD [])[x]?).getD 0

/-- `bitmap[y][x]`, for a texel of `valid`. -/
def Entry.texel (e : Entry) (x y : Nat) : Word32 := texelAt e.rows (x - e.valid.left) (y - e.valid.top)

/-- The handle of a render target's surface. -/
def Entry.handle (e : Entry) : Nat :=
  match e.content with
  | .bitmap _ => 0
  | .surface h => h

/-- A render-target entry at this base pointer and format (44_texture_cache.md R334, R348, R350). -/
def isTarget (bp : BasePtr) (f : Format) (e : Entry) : Bool :=
  e.isRt && decide (e.key.bp = bp) && decide (e.key.psm = f)

/-- A texture entry with this key (44_texture_cache.md R334). -/
def isTexture (k : Key) (e : Entry) : Bool := !e.isRt && decide (e.key = k)

/-- Change the first entry that fits; the rest keep their places (44_texture_cache.md R332). -/
def updateFirst (p : Entry → Bool) (g : Entry → Entry) : List Entry → List Entry
  | [] => []
  | e :: rest => if p e then g e :: rest else e :: updateFirst p g rest

/-! ### Shared bits and the dirty query (44_texture_cache.md R340, R342) -/

/-- A written pixel of a buffer has a footprint bit in common with the texel `q` of the entry (44_texture_cache.md R342). -/
def pixelMeets (g : Format) (wbp wbw : Nat) (e : Entry) (q p : Nat × Nat) : Bool :=
  footsMeet g p wbp wbw e.key.psm q e.key.bp.toNat e.key.bw.toNat

/-- `SHARES` (44_texture_cache.md R342); a written pixel outside GSMEM shares nothing (R344). -/
def shares (e : Entry) (wbp wbw : Nat) (g : Format) (r : Rect) : Bool :=
  e.area.pixels.any fun q => r.pixels.any fun p => inArena g wbp wbw p && pixelMeets g wbp wbw e q p

/-- `DIRTYSET`, in raster order (44_texture_cache.md R340; log entry 22). -/
def dirtySet (e : Entry) : List (Nat × Nat) :=
  e.area.pixels.filter fun q =>
    e.dirty.any fun d => d.rect.pixels.any fun p => pixelMeets d.psm e.key.bp.toNat e.key.bw.toNat e q p

/-- `n` rounded down to a multiple of `m`. -/
def roundDown (n m : Nat) : Nat := n / m * m

/-- `n` rounded up to a multiple of `m`. -/
def roundUp (n m : Nat) : Nat := ceilDiv n m * m

/-- A rectangle rounded out to the block grid of a format and cut to the texture (44_texture_cache.md R340). -/
def blockOut (e : Entry) (r : Rect) : Rect :=
  Rect.inter
    ⟨roundDown r.left (fmt e.key.psm).bkw, roundDown r.top (fmt e.key.psm).bkh,
      roundUp r.right (fmt e.key.psm).bkw, roundUp r.bottom (fmt e.key.psm).bkh⟩
    e.area

/-- `DIRTYQ` (44_texture_cache.md R340). -/
def dirtyQuery (e : Entry) : Option Rect := (boundingBox (dirtySet e)).map (blockOut e)

/-! ### Aliasing of render targets (44_texture_cache.md R349 to R353) -/

/-- `SURF(h)` as a `w × h` array (44_texture_cache.md R352; log entry 9). -/
def surfContents (s : State) (handle w h : Nat) : Pixels :=
  Rect.tabulate ⟨0, 0, w, h⟩ fun x y =>
    match s.surf.find? (fun q => q.1 == handle) with
    | none => Config.surfTexel s.free handle x y
    | some q => ((q.2[y]?.bind fun row => row[x]?)).getD (Config.surfTexel s.free handle x y)

/-- `REMAP`: the texel of the one pixel that has the same address under the entry's own buffer width; unspecified where
there is not exactly one (44_texture_cache.md R351; log entry 8). -/
def remap (n : Nat) (p : Pixels) (e : Entry) (rbw rw rh : Nat) : Pixels :=
  Rect.tabulate ⟨0, 0, rw, rh⟩ fun x y =>
    match e.area.pixels.filter fun q =>
        pixelAddr e.key.psm q.1 q.2 e.key.bp.toNat e.key.bw.toNat == pixelAddr e.key.psm x y e.key.bp.toNat rbw with
    | [q] => texelAt p q.1 q.2
    | _ => Config.remapTexel n x y

/-- `RESAMPLE`: nearest, or a filter that the spec does not give (44_texture_cache.md R353; log entry 12). -/
def resample (p : Pixels) (w h rw rh : Nat) : Pixels :=
  Rect.tabulate ⟨0, 0, rw, rh⟩ fun x y =>
    if Config.resampleFiltered then Config.filterTexel p w h rw rh x y
    else texelAt p (x * w / rw) (y * h / rh)

/-- Every handle that the cache holds. -/
def liveHandles (tc : List Entry) : List Nat :=
  tc.flatMap fun e => (if e.isRt then [e.handle] else []) ++ e.subs.map SubSurface.surface

/-- A handle that is none of the live ones (93_implementation_defined.md U27; log entry 7). -/
def freshHandle (live : List Nat) (seed : Nat) : Nat := if live.contains seed then live.sum + seed + 1 else seed

/-- The contents of a new sub-surface (44_texture_cache.md R350 cases (a) and (b)). -/
def subContents (s : State) (e : Entry) (rbw : BufWidth) (rw rh : Nat) : Pixels :=
  let p := surfContents s e.handle e.width e.height
  if rbw ≠ e.key.bw then remap s.free p e rbw.toNat rw rh else resample p e.width e.height rw rh

/-- The sub-surface that already answers a request, if there is one (44_texture_cache.md R350). -/
def findSub (e : Entry) (rbw : BufWidth) (rw rh : Nat) : Option SubSurface :=
  e.subs.find? fun u => decide (u.bw = rbw) && u.w == rw && u.h == rh

/-- What `ALIAS` answers and leaves: the handle, the parent's sub-surfaces, the surfaces and the free values drawn. -/
structure Aliased where
  handle : Nat
  subs : List SubSurface
  surf : List (Nat × Pixels)
  free : Nat
  deriving DecidableEq, Repr

/-- `ALIAS(e, TEXD)`, apart from the age it resets (44_texture_cache.md R350). -/
def resolveAlias (s : State) (e : Entry) (texd : Desc) : Aliased :=
  let rbw := Texd.tbw texd
  let rw := 2 ^ (Texd.tw texd).toNat
  let rh := 2 ^ (Texd.th texd).toNat
  if rbw = e.key.bw ∧ rw = e.width ∧ rh = e.height then ⟨e.handle, e.subs, s.surf, s.free⟩
  else match findSub e rbw rw rh with
    | some u => ⟨u.surface, e.subs, s.surf, s.free⟩
    | none =>
      let h := freshHandle (liveHandles s.tc) (Config.handleSeed s.free)
      ⟨h, e.subs ++ [⟨rbw, rw, rh, h⟩], surfSet s.surf (h, subContents s e rbw rw rh), s.free + 1⟩

/-! ### Room (44_texture_cache.md R361) and eviction (R357) -/

/-- Remove the entry of greatest age among those that fit, the earliest among equals; none if none fits. -/
def removeOldest (p : Entry → Bool) (tc : List Entry) : Option (List Entry) :=
  ((tc.filter p).map Entry.age).max?.map fun a => tc.eraseP fun e => p e && e.age == a

/-- The cache with room for one more entry; none when only render targets could make it (44_texture_cache.md R361). -/
def makeRoom (tc : List Entry) : Option (List Entry) :=
  if tc.length = Config.maxEntries then removeOldest (fun e => !e.isRt) tc else some tc

/-- `live_rt` (10_state.md R40). -/
def liveRt (tc : List Entry) : Nat := tc.countP Entry.isRt

/-- Evict the render targets past the threshold, greatest age first, while more than `RT_KEEP` are alive; `n` bounds how
many can go (44_texture_cache.md R357). -/
def evictTargets : Nat → List Entry → List Entry
  | 0, tc => tc
  | n + 1, tc =>
    if Config.rtKeep < liveRt tc then
      match removeOldest (fun e => e.isRt && decide (Config.ageMax < e.age)) tc with
      | none => tc
      | some tc' => evictTargets n tc'
    else tc

/-- The textures past the threshold go (44_texture_cache.md R357). -/
def evictTextures (tc : List Entry) : List Entry := tc.filter fun e => e.isRt || decide (e.age ≤ Config.ageMax)

/-- One more frame without use (44_texture_cache.md R356). -/
def Entry.older (e : Entry) : Entry := { e with age := e.age + 1 }

/-- The cache after a frame boundary (44_texture_cache.md R356, R357). -/
def ageAndEvict (tc : List Entry) : List Entry := evictTargets tc.length (evictTextures (tc.map Entry.older))

/-! ### `TCFETCH` (44_texture_cache.md R334 to R341, R349) -/

/-- `PALSNAP` (44_texture_cache.md R333). -/
def palSnap (f : Format) (clut32 : Palette) (alphad : Desc) : PalSnap :=
  match f with
  | .t8 | .t4 | .t8h | .t4hl | .t4hh => .palette (clut32.toList.take (fmt f).pal)
  | .ct24 | .ct16 | .ct16s | .z24 | .z16 | .z16s => .alpha (Alphad.ta0 alphad) (Alphad.ta1 alphad) (Alphad.aem alphad)
  | .ct32 | .z32 => .empty

/-- `KEY` (44_texture_cache.md R333). -/
def fetchKey (f : Format) (texd alphad clampd : Desc) (clut32 : Palette) : Key where
  bp := Texd.tbp0 texd
  psm := f
  bw := Texd.tbw texd
  tw := Texd.tw texd
  th := Texd.th texd
  wms := Clampd.wms clampd
  wmt := Clampd.wmt clampd
  palSnap := palSnap f clut32 alphad

/-- `RANGE(m, MIN, MAX, S)` (44_texture_cache.md R338). -/
def clampRange (m : BitVec 2) (lo hi size : Nat) : Nat × Nat :=
  match m.toNat with
  | 2 => if lo ≤ hi ∧ lo < size then (lo, min (hi + 1) size) else (0, size)
  | 3 => if hi < size then (hi, min ((lo ||| hi) + 1) size) else (0, size)
  | _ => (0, size)

/-- `REQRECT` (44_texture_cache.md R338). -/
def requiredRect (clampd : Desc) (w h : Nat) : Rect :=
  let u := clampRange (Clampd.wms clampd) (Clampd.minu clampd).toNat (Clampd.maxu clampd).toNat w
  let v := clampRange (Clampd.wmt clampd) (Clampd.minv clampd).toNat (Clampd.maxv clampd).toNat h
  ⟨u.1, v.1, u.2, v.2⟩

/-- The texel of the entry is decoded again by a dirty hit: it is valid and lies in the dirty query
(44_texture_cache.md R337). -/
def refreshed (e : Entry) (x y : Nat) : Bool :=
  match dirtyQuery e with
  | none => false
  | some d => d.has x y && e.valid.has x y

/-- The rectangle that is valid after a hit, `EXTEND`'s `U` (44_texture_cache.md R336). -/
def extended (e : Entry) (req : Rect) : Rect := e.valid.union req

/-- The texel is decoded by a hit: refreshed, or new (44_texture_cache.md R336, R337). -/
def decodedByHit (e : Entry) (x y : Nat) : Bool := refreshed e x y || !e.valid.has x y

/-- The entry after a hit, clean or dirty: what is refreshed or new is decoded, the rest of the bitmap is kept, the dirty
list is empty, the age is 0 (44_texture_cache.md R336, R337). -/
def hitEntry (e : Entry) (req : Rect) (dec : Nat → Nat → Word32) : Entry :=
  { e with
    content := .bitmap ((extended e req).tabulate fun x y => if decodedByHit e x y then dec x y else e.texel x y)
    valid := extended e req
    dirty := []
    age := 0 }

/-- A new texture entry (44_texture_cache.md R339). -/
def newTexture (k : Key) (req : Rect) (dec : Nat → Nat → Word32) : Entry where
  key := k
  content := .bitmap (req.tabulate dec)
  valid := req
  dirty := []
  age := 0
  subs := []

/-- `DECODE` (44_texture_cache.md R341). -/
def decodeTexel (s : State) (f : Format) (texd alphad : Desc) (x y : Nat) : Word32 :=
  readTexel s.mem s.clut32 alphad f (Texd.tbp0 texd).toNat (Texd.tbw texd).toNat x y

/-- The texels to be decoded all lie in the arena (44_texture_cache.md R334). -/
def decodable (f : Format) (texd : Desc) (ps : List (Nat × Nat)) : Bool :=
  ps.all (inArena f (Texd.tbp0 texd).toNat (Texd.tbw texd).toNat)

/-- The alias path (44_texture_cache.md R349). -/
def fetchTarget (s : State) (e : Entry) (f : Format) (texd : Desc) : Answer State :=
  let a := resolveAlias s e texd
  State.answer
    { s with
      tc := updateFirst (isTarget (Texd.tbp0 texd) f) (fun e => { e with age := 0, subs := a.subs, dirty := [] }) s.tc
      surf := a.surf
      free := a.free }
    (.renderTarget a.handle (dirtyQuery e))

/-- A hit, clean or dirty (44_texture_cache.md R336, R337). -/
def fetchHit (s : State) (e : Entry) (f : Format) (texd alphad clampd : Desc) : Answer State :=
  let req := requiredRect clampd e.width e.height
  if decodable f texd ((extended e req).pixels.filter fun q => decodedByHit e q.1 q.2) then
    let e' := hitEntry e req (decodeTexel s f texd alphad)
    State.answer { s with tc := updateFirst (isTexture e.key) (fun _ => e') s.tc } e'.output
  else s.raise (.cv .oob)

/-- A miss (44_texture_cache.md R339). -/
def fetchMiss (s : State) (k : Key) (f : Format) (texd alphad clampd : Desc) : Answer State :=
  let req := requiredRect clampd (2 ^ k.tw.toNat) (2 ^ k.th.toNat)
  if decodable f texd req.pixels then
    match makeRoom s.tc with
    | none => s.raise .exhausted
    | some tc =>
      let e := newTexture k req (decodeTexel s f texd alphad)
      State.answer { s with tc := tc ++ [e] } e.output
  else s.raise (.cv .oob)

/-- The checks on a texture descriptor whose format is legal: the buffer width, then the dimensions
(44_texture_cache.md R334, R348, R350). -/
def texdChecks (texd : Desc) : List (Bool × Cause) :=
  [(decide (Texd.tbw texd = 0), .badBw),
   (decide (Config.maxLog2 < (Texd.tw texd).toNat) || decide (Config.maxLog2 < (Texd.th texd).toNat), .badDim)]

/-- The palette format of an indexed texture is not legal (44_texture_cache.md R335). -/
def selfContradictory (f : Format) (texd : Desc) : Bool :=
  decide ((fmt f).pal ≠ 0) && decide (cpsmFormat (Texd.cpsm texd) = none)

/-- `TCFETCH` (44_texture_cache.md R334). -/
def execTcfetch (texd alphad clampd : Desc) (s : State) : Answer State :=
  match formatOf (Texd.psm texd) with
  | none => s.raise (.cv .badPsm)
  | some f =>
    s.check (texdChecks texd)
      (if selfContradictory f texd then s.raise .refused
      else match s.tc.find? (isTarget (Texd.tbp0 texd) f) with
        | some e => fetchTarget s e f texd
        | none =>
          match s.tc.find? (isTexture (fetchKey f texd alphad clampd s.clut32)) with
          | some e => fetchHit s e f texd alphad clampd
          | none => fetchMiss s (fetchKey f texd alphad clampd s.clut32) f texd alphad clampd)

/-! ### `TCINVAL` (44_texture_cache.md R344, R345) -/

/-- `RECORD(e)` (44_texture_cache.md R345). -/
def dirtyRecord (e : Entry) (bp : BasePtr) (bw : BufWidth) (g : Format) (r : Rect) : DirtyRect :=
  if bp = e.key.bp ∧ bw = e.key.bw then ⟨r, g⟩ else ⟨e.area, e.key.psm⟩

/-- An entry after a reported write: a rectangle more where it shares bits, and a render target loses its sub-surfaces
(44_texture_cache.md R344, R354). -/
def markDirty (bp : BasePtr) (bw : BufWidth) (g : Format) (r : Rect) (e : Entry) : Entry :=
  if shares e bp.toNat bw.toNat g r then
    { e with dirty := e.dirty ++ [dirtyRecord e bp bw g r], subs := if e.isRt then [] else e.subs }
  else e

/-- `TCINVAL` (44_texture_cache.md R344). -/
def execTcinval (bp : BasePtr) (bw : BufWidth) (psm : BitVec 6) (rect : RectArg) (s : State) : Answer State :=
  match formatOf psm with
  | none => s.raise (.cv .badPsm)
  | some g =>
    s.check ((decide (bw = 0), .badBw) :: rectShapeChecks (rectOf rect) ++ [rectBoundCheck (rectOf rect)])
      (State.answer { s with tc := s.tc.map (markDirty bp bw g (rectOf rect)) } .none)

/-! ### `TCALIAS`, `TCAGE`, `TCDROP`, `TCPURGE`, `TCRT` -/

/-- `TCALIAS` (44_texture_cache.md R350). -/
def execTcalias (keyTexd _keyClampd texd : Desc) (s : State) : Answer State :=
  match formatOf (Texd.psm keyTexd), formatOf (Texd.psm texd) with
  | some f, some _ =>
    s.check (texdChecks texd)
      (match s.tc.find? (isTarget (Texd.tbp0 keyTexd) f) with
      | none => s.raise (.cv .noEntry)
      | some e =>
        State.answer
          { s with
            tc := updateFirst (isTarget (Texd.tbp0 keyTexd) f)
              (fun e' => { e' with age := 0, subs := (resolveAlias s e texd).subs }) s.tc
            surf := (resolveAlias s e texd).surf
            free := (resolveAlias s e texd).free }
          (.surface (resolveAlias s e texd).handle))
  | _, _ => s.raise (.cv .badPsm)

/-- `TCAGE` (44_texture_cache.md R356, R357). -/
def execTcage (s : State) : Answer State := State.answer { s with tc := ageAndEvict s.tc } .none

/-- The entry is one that `TCDROP` names: a render target by `bp` and `psm`, a texture by every passed field
(30_encoding.md R111, 44_texture_cache.md R358). -/
def dropMatches (f : Format) (keyTexd keyClampd : Desc) (isRt : Bool) (e : Entry) : Bool :=
  decide (e.isRt = isRt) && decide (e.key.bp = Texd.tbp0 keyTexd) && decide (e.key.psm = f) &&
    (isRt || (decide (e.key.bw = Texd.tbw keyTexd) && decide (e.key.tw = Texd.tw keyTexd) &&
      decide (e.key.th = Texd.th keyTexd) && decide (e.key.wms = Clampd.wms keyClampd) &&
      decide (e.key.wmt = Clampd.wmt keyClampd)))

/-- `TCDROP` (44_texture_cache.md R358). -/
def execTcdrop (keyTexd keyClampd : Desc) (isRt : Bool) (s : State) : Answer State :=
  match formatOf (Texd.psm keyTexd) with
  | none => s.raise (.cv .badPsm)
  | some f => State.answer { s with tc := s.tc.filter fun e => !dropMatches f keyTexd keyClampd isRt e } .none

/-- `TCPURGE` (44_texture_cache.md R359). -/
def execTcpurge (s : State) : Answer State := State.answer { s with tc := [] } .none

/-- A render-target entry as `TCRT` makes it, new or in place of the old one (44_texture_cache.md R348). -/
def newTarget (f : Format) (texd : Desc) (handle : Nat) : Entry where
  key := ⟨Texd.tbp0 texd, f, Texd.tbw texd, Texd.tw texd, Texd.th texd, 0, 0, .empty⟩
  content := .surface handle
  valid := ⟨0, 0, 2 ^ (Texd.tw texd).toNat, 2 ^ (Texd.th texd).toNat⟩
  dirty := []
  age := 0
  subs := []

/-- `TCRT` (44_texture_cache.md R348). -/
def execTcrt (texd : Desc) (handle : Nat) (s : State) : Answer State :=
  match formatOf (Texd.psm texd) with
  | none => s.raise (.cv .badPsm)
  | some f =>
    s.check (texdChecks texd)
      (if s.tc.any (isTarget (Texd.tbp0 texd) f) then
        State.answer
          { s with tc := updateFirst (isTarget (Texd.tbp0 texd) f) (fun _ => newTarget f texd handle) s.tc } .none
      else match makeRoom s.tc with
        | none => s.raise .exhausted
        | some tc => State.answer { s with tc := tc ++ [newTarget f texd handle] } .none)

end Sys2Proof.Machine
end

