-- ==== Sys2Proof/Machine/Dispatch.lean ====
section
/-! DEFINITION. One arm for each operation of the opcode table. -/

namespace Sys2Proof.Machine

def exec (i : Instr) (s : State) : Host.Outcome State Fault Refusal :=
  match i with
  | .nop => Sys2Proof.Machine.execNop s
  | .vmrd8 idx => Sys2Proof.Machine.execVmrd8 idx s
  | .vmrd16 idx => Sys2Proof.Machine.execVmrd16 idx s
  | .vmrd32 idx => Sys2Proof.Machine.execVmrd32 idx s
  | .vmwr8 idx v => Sys2Proof.Machine.execVmwr8 idx v s
  | .vmwr16 idx v => Sys2Proof.Machine.execVmwr16 idx v s
  | .vmwr32 idx v => Sys2Proof.Machine.execVmwr32 idx v s
  | .exp16 v alphad => Sys2Proof.Machine.execExp16 v alphad s
  | .exp24 v alphad => Sys2Proof.Machine.execExp24 v alphad s
  | .clutwr texd clutd => Sys2Proof.Machine.execClutwr texd clutd s
  | .clutrd32 texd alphad => Sys2Proof.Machine.execClutrd32 texd alphad s
  | .clutinv => Sys2Proof.Machine.execClutinv s
  | .xfermm xferd => Sys2Proof.Machine.execXfermm xferd s
  | .tcfetch texd alphad clampd => Sys2Proof.Machine.execTcfetch texd alphad clampd s
  | .tcinval bp bw psm rect => Sys2Proof.Machine.execTcinval bp bw psm rect s
  | .tcalias keyTexd keyClampd texd => Sys2Proof.Machine.execTcalias keyTexd keyClampd texd s
  | .tcage => Sys2Proof.Machine.execTcage s
  | .tcdrop keyTexd keyClampd isRt => Sys2Proof.Machine.execTcdrop keyTexd keyClampd isRt s
  | .tcpurge => Sys2Proof.Machine.execTcpurge s
  | .tcrt texd handle => Sys2Proof.Machine.execTcrt texd handle s
  | .save => Sys2Proof.Machine.execSave s
  | .restore image => Sys2Proof.Machine.execRestore image s
  | .paddrCt32 x y bp bw => Sys2Proof.Machine.execPaddrCt32 x y bp bw s
  | .paddrCt24 x y bp bw => Sys2Proof.Machine.execPaddrCt24 x y bp bw s
  | .paddrCt16 x y bp bw => Sys2Proof.Machine.execPaddrCt16 x y bp bw s
  | .paddrCt16s x y bp bw => Sys2Proof.Machine.execPaddrCt16s x y bp bw s
  | .paddrT8 x y bp bw => Sys2Proof.Machine.execPaddrT8 x y bp bw s
  | .paddrT4 x y bp bw => Sys2Proof.Machine.execPaddrT4 x y bp bw s
  | .paddrT8h x y bp bw => Sys2Proof.Machine.execPaddrT8h x y bp bw s
  | .paddrT4hl x y bp bw => Sys2Proof.Machine.execPaddrT4hl x y bp bw s
  | .paddrT4hh x y bp bw => Sys2Proof.Machine.execPaddrT4hh x y bp bw s
  | .paddrZ32 x y bp bw => Sys2Proof.Machine.execPaddrZ32 x y bp bw s
  | .paddrZ24 x y bp bw => Sys2Proof.Machine.execPaddrZ24 x y bp bw s
  | .paddrZ16 x y bp bw => Sys2Proof.Machine.execPaddrZ16 x y bp bw s
  | .paddrZ16s x y bp bw => Sys2Proof.Machine.execPaddrZ16s x y bp bw s
  | .baddrCt32 x y bp bw => Sys2Proof.Machine.execBaddrCt32 x y bp bw s
  | .baddrCt24 x y bp bw => Sys2Proof.Machine.execBaddrCt24 x y bp bw s
  | .baddrCt16 x y bp bw => Sys2Proof.Machine.execBaddrCt16 x y bp bw s
  | .baddrCt16s x y bp bw => Sys2Proof.Machine.execBaddrCt16s x y bp bw s
  | .baddrT8 x y bp bw => Sys2Proof.Machine.execBaddrT8 x y bp bw s
  | .baddrT4 x y bp bw => Sys2Proof.Machine.execBaddrT4 x y bp bw s
  | .baddrT8h x y bp bw => Sys2Proof.Machine.execBaddrT8h x y bp bw s
  | .baddrT4hl x y bp bw => Sys2Proof.Machine.execBaddrT4hl x y bp bw s
  | .baddrT4hh x y bp bw => Sys2Proof.Machine.execBaddrT4hh x y bp bw s
  | .baddrZ32 x y bp bw => Sys2Proof.Machine.execBaddrZ32 x y bp bw s
  | .baddrZ24 x y bp bw => Sys2Proof.Machine.execBaddrZ24 x y bp bw s
  | .baddrZ16 x y bp bw => Sys2Proof.Machine.execBaddrZ16 x y bp bw s
  | .baddrZ16s x y bp bw => Sys2Proof.Machine.execBaddrZ16s x y bp bw s
  | .pgaddrCt32 x y bp bw => Sys2Proof.Machine.execPgaddrCt32 x y bp bw s
  | .pgaddrCt24 x y bp bw => Sys2Proof.Machine.execPgaddrCt24 x y bp bw s
  | .pgaddrCt16 x y bp bw => Sys2Proof.Machine.execPgaddrCt16 x y bp bw s
  | .pgaddrCt16s x y bp bw => Sys2Proof.Machine.execPgaddrCt16s x y bp bw s
  | .pgaddrT8 x y bp bw => Sys2Proof.Machine.execPgaddrT8 x y bp bw s
  | .pgaddrT4 x y bp bw => Sys2Proof.Machine.execPgaddrT4 x y bp bw s
  | .pgaddrT8h x y bp bw => Sys2Proof.Machine.execPgaddrT8h x y bp bw s
  | .pgaddrT4hl x y bp bw => Sys2Proof.Machine.execPgaddrT4hl x y bp bw s
  | .pgaddrT4hh x y bp bw => Sys2Proof.Machine.execPgaddrT4hh x y bp bw s
  | .pgaddrZ32 x y bp bw => Sys2Proof.Machine.execPgaddrZ32 x y bp bw s
  | .pgaddrZ24 x y bp bw => Sys2Proof.Machine.execPgaddrZ24 x y bp bw s
  | .pgaddrZ16 x y bp bw => Sys2Proof.Machine.execPgaddrZ16 x y bp bw s
  | .pgaddrZ16s x y bp bw => Sys2Proof.Machine.execPgaddrZ16s x y bp bw s
  | .rdpixCt32 x y bp bw => Sys2Proof.Machine.execRdpixCt32 x y bp bw s
  | .rdpixCt24 x y bp bw => Sys2Proof.Machine.execRdpixCt24 x y bp bw s
  | .rdpixCt16 x y bp bw => Sys2Proof.Machine.execRdpixCt16 x y bp bw s
  | .rdpixCt16s x y bp bw => Sys2Proof.Machine.execRdpixCt16s x y bp bw s
  | .rdpixT8 x y bp bw => Sys2Proof.Machine.execRdpixT8 x y bp bw s
  | .rdpixT4 x y bp bw => Sys2Proof.Machine.execRdpixT4 x y bp bw s
  | .rdpixT8h x y bp bw => Sys2Proof.Machine.execRdpixT8h x y bp bw s
  | .rdpixT4hl x y bp bw => Sys2Proof.Machine.execRdpixT4hl x y bp bw s
  | .rdpixT4hh x y bp bw => Sys2Proof.Machine.execRdpixT4hh x y bp bw s
  | .rdpixZ32 x y bp bw => Sys2Proof.Machine.execRdpixZ32 x y bp bw s
  | .rdpixZ24 x y bp bw => Sys2Proof.Machine.execRdpixZ24 x y bp bw s
  | .rdpixZ16 x y bp bw => Sys2Proof.Machine.execRdpixZ16 x y bp bw s
  | .rdpixZ16s x y bp bw => Sys2Proof.Machine.execRdpixZ16s x y bp bw s
  | .wrpixCt32 x y bp bw v => Sys2Proof.Machine.execWrpixCt32 x y bp bw v s
  | .wrpixCt24 x y bp bw v => Sys2Proof.Machine.execWrpixCt24 x y bp bw v s
  | .wrpixCt16 x y bp bw v => Sys2Proof.Machine.execWrpixCt16 x y bp bw v s
  | .wrpixCt16s x y bp bw v => Sys2Proof.Machine.execWrpixCt16s x y bp bw v s
  | .wrpixT8 x y bp bw v => Sys2Proof.Machine.execWrpixT8 x y bp bw v s
  | .wrpixT4 x y bp bw v => Sys2Proof.Machine.execWrpixT4 x y bp bw v s
  | .wrpixT8h x y bp bw v => Sys2Proof.Machine.execWrpixT8h x y bp bw v s
  | .wrpixT4hl x y bp bw v => Sys2Proof.Machine.execWrpixT4hl x y bp bw v s
  | .wrpixT4hh x y bp bw v => Sys2Proof.Machine.execWrpixT4hh x y bp bw v s
  | .wrpixZ32 x y bp bw v => Sys2Proof.Machine.execWrpixZ32 x y bp bw v s
  | .wrpixZ24 x y bp bw v => Sys2Proof.Machine.execWrpixZ24 x y bp bw v s
  | .wrpixZ16 x y bp bw v => Sys2Proof.Machine.execWrpixZ16 x y bp bw v s
  | .wrpixZ16s x y bp bw v => Sys2Proof.Machine.execWrpixZ16s x y bp bw v s
  | .rdtexCt32 x y bp bw alphad => Sys2Proof.Machine.execRdtexCt32 x y bp bw alphad s
  | .rdtexCt24 x y bp bw alphad => Sys2Proof.Machine.execRdtexCt24 x y bp bw alphad s
  | .rdtexCt16 x y bp bw alphad => Sys2Proof.Machine.execRdtexCt16 x y bp bw alphad s
  | .rdtexCt16s x y bp bw alphad => Sys2Proof.Machine.execRdtexCt16s x y bp bw alphad s
  | .rdtexT8 x y bp bw alphad => Sys2Proof.Machine.execRdtexT8 x y bp bw alphad s
  | .rdtexT4 x y bp bw alphad => Sys2Proof.Machine.execRdtexT4 x y bp bw alphad s
  | .rdtexT8h x y bp bw alphad => Sys2Proof.Machine.execRdtexT8h x y bp bw alphad s
  | .rdtexT4hl x y bp bw alphad => Sys2Proof.Machine.execRdtexT4hl x y bp bw alphad s
  | .rdtexT4hh x y bp bw alphad => Sys2Proof.Machine.execRdtexT4hh x y bp bw alphad s
  | .rdtexZ32 x y bp bw alphad => Sys2Proof.Machine.execRdtexZ32 x y bp bw alphad s
  | .rdtexZ24 x y bp bw alphad => Sys2Proof.Machine.execRdtexZ24 x y bp bw alphad s
  | .rdtexZ16 x y bp bw alphad => Sys2Proof.Machine.execRdtexZ16 x y bp bw alphad s
  | .rdtexZ16s x y bp bw alphad => Sys2Proof.Machine.execRdtexZ16s x y bp bw alphad s
  | .swzinCt32 xferd resume src => Sys2Proof.Machine.execSwzinCt32 xferd resume src s
  | .swzinCt24 xferd resume src => Sys2Proof.Machine.execSwzinCt24 xferd resume src s
  | .swzinCt16 xferd resume src => Sys2Proof.Machine.execSwzinCt16 xferd resume src s
  | .swzinCt16s xferd resume src => Sys2Proof.Machine.execSwzinCt16s xferd resume src s
  | .swzinT8 xferd resume src => Sys2Proof.Machine.execSwzinT8 xferd resume src s
  | .swzinT4 xferd resume src => Sys2Proof.Machine.execSwzinT4 xferd resume src s
  | .swzinT8h xferd resume src => Sys2Proof.Machine.execSwzinT8h xferd resume src s
  | .swzinT4hl xferd resume src => Sys2Proof.Machine.execSwzinT4hl xferd resume src s
  | .swzinT4hh xferd resume src => Sys2Proof.Machine.execSwzinT4hh xferd resume src s
  | .swzinZ32 xferd resume src => Sys2Proof.Machine.execSwzinZ32 xferd resume src s
  | .swzinZ24 xferd resume src => Sys2Proof.Machine.execSwzinZ24 xferd resume src s
  | .swzinZ16 xferd resume src => Sys2Proof.Machine.execSwzinZ16 xferd resume src s
  | .swzinZ16s xferd resume src => Sys2Proof.Machine.execSwzinZ16s xferd resume src s
  | .unswzCt32 rect bp bw mode alphad pitch => Sys2Proof.Machine.execUnswzCt32 rect bp bw mode alphad pitch s
  | .unswzCt24 rect bp bw mode alphad pitch => Sys2Proof.Machine.execUnswzCt24 rect bp bw mode alphad pitch s
  | .unswzCt16 rect bp bw mode alphad pitch => Sys2Proof.Machine.execUnswzCt16 rect bp bw mode alphad pitch s
  | .unswzCt16s rect bp bw mode alphad pitch => Sys2Proof.Machine.execUnswzCt16s rect bp bw mode alphad pitch s
  | .unswzT8 rect bp bw mode alphad pitch => Sys2Proof.Machine.execUnswzT8 rect bp bw mode alphad pitch s
  | .unswzT4 rect bp bw mode alphad pitch => Sys2Proof.Machine.execUnswzT4 rect bp bw mode alphad pitch s
  | .unswzT8h rect bp bw mode alphad pitch => Sys2Proof.Machine.execUnswzT8h rect bp bw mode alphad pitch s
  | .unswzT4hl rect bp bw mode alphad pitch => Sys2Proof.Machine.execUnswzT4hl rect bp bw mode alphad pitch s
  | .unswzT4hh rect bp bw mode alphad pitch => Sys2Proof.Machine.execUnswzT4hh rect bp bw mode alphad pitch s
  | .unswzZ32 rect bp bw mode alphad pitch => Sys2Proof.Machine.execUnswzZ32 rect bp bw mode alphad pitch s
  | .unswzZ24 rect bp bw mode alphad pitch => Sys2Proof.Machine.execUnswzZ24 rect bp bw mode alphad pitch s
  | .unswzZ16 rect bp bw mode alphad pitch => Sys2Proof.Machine.execUnswzZ16 rect bp bw mode alphad pitch s
  | .unswzZ16s rect bp bw mode alphad pitch => Sys2Proof.Machine.execUnswzZ16s rect bp bw mode alphad pitch s

end Sys2Proof.Machine
end

