-- ==== Sys2Proof/Machine/Step.lean ====
section
/-! DEFINITION. One step: the core takes the next request at its port, decodes it and carries it out. -/

namespace Sys2Proof.Machine

/-- One step is one request (30_encoding.md R90, 70_reset_and_hazards.md R470). With no request at the port the core is
idle and holds its state (60_exceptions.md R425). A header the decoder refuses ends in STATUS (30_encoding.md R92). -/
def step (s : State) : Host.Outcome State Fault Refusal :=
  match s.requests with
  | [] => .next s
  | r :: rest =>
    match decode r with
    | .ok i => exec i (s.take r rest)
    | .error e => (s.take r rest).raise (.cv (decodeCause e))

/-- The state with the request of header `w` and operands of zeros next at the port (log entry 2). -/
def State.withFetchWord (s : State) (_nbits w : Nat) : State :=
  { s with requests := ⟨BitVec.ofNat 16 w, .zero, []⟩ :: s.requests }

end Sys2Proof.Machine
end

