-- ==== Sys2Proof/Safety.lean ====
section
/-! DEFINITION. What counts as a safe run, and the invariants of the core, in the terms the statements use. -/

namespace Sys2Proof.Machine

/-- The class of STATUS (60_exceptions.md R404). -/
def State.statusClass (s : State) : BitVec 8 := s.status.extractLsb' 8 8

/-- The last request was no contract violation: a proof may assume that the host raises none (60_exceptions.md R401). -/
def State.contractKept (s : State) : Prop := s.statusClass ≠ 1

/-- A step is safe when it ends in a next state in which the contract is kept. -/
def SafeStep (s : State) : Prop := ∃ t, step s = .next t ∧ t.contractKept

/-- The cursor of no transfer is zero (43_swizzle_engine.md R290, 45_host_ops.md R389). -/
def Cursor.ok (c : Cursor) : Prop := c.active = false → c.x = 0 ∧ c.y = 0

/-- STATUS holds a class with a cause of 60_exceptions.md R404. -/
def State.statusLegal (s : State) : Prop := ∃ e : Ending, s.status = e.status

/-- The rectangle has at least one pixel. -/
def Rect.nonempty (r : Rect) : Prop := r.left < r.right ∧ r.top < r.bottom

/-- The first rectangle lies inside the second. -/
def Rect.within (r q : Rect) : Prop := q.left ≤ r.left ∧ q.top ≤ r.top ∧ r.right ≤ q.right ∧ r.bottom ≤ q.bottom

/-- The rows fill the rectangle. -/
def rowsFill (rows : Pixels) (r : Rect) : Prop :=
  rows.length = r.bottom - r.top ∧ ∀ row ∈ rows, row.length = r.right - r.left

/-- The palette snapshot has the form that its format asks for (10_state.md R37). -/
def palSnapFits (f : Format) : PalSnap → Prop
  | .palette colours => (fmt f).pal ≠ 0 ∧ colours.length = (fmt f).pal
  | .alpha _ _ _ => (fmt f).pal = 0 ∧ f ≠ .ct32 ∧ f ≠ .z32
  | .empty => f = .ct32 ∨ f = .z32

/-- An entry has the form the spec gives it: the bounds of its key (10_state.md R37), a validity rectangle inside its area
(R36), dirty rectangles with an area (44_texture_cache.md R344), and the fields of its kind (R333, R348). -/
def Entry.ok (e : Entry) : Prop :=
  e.key.bw ≠ 0 ∧ e.key.tw.toNat ≤ Config.maxLog2 ∧ e.key.th.toNat ≤ Config.maxLog2 ∧
  e.valid.nonempty ∧ e.valid.within e.area ∧ (∀ d ∈ e.dirty, d.rect.nonempty) ∧
  match e.content with
  | .bitmap rows => rowsFill rows e.valid ∧ palSnapFits e.key.psm e.key.palSnap ∧ e.subs = []
  | .surface _ => e.valid = e.area ∧ e.key.palSnap = .empty ∧ e.key.wms = 0 ∧ e.key.wmt = 0

/-- Two entries are told apart: no two have the same key and kind (44_texture_cache.md R332), and no two render targets the
same base pointer and format (R348). -/
def Entry.distinct (e g : Entry) : Prop :=
  ¬(e.key = g.key ∧ e.isRt = g.isRt) ∧
    ¬(e.isRt = true ∧ g.isRt = true ∧ e.key.bp = g.key.bp ∧ e.key.psm = g.key.psm)

/-- The cache holds at most `MAX_ENTRIES` well-formed entries, told apart (10_state.md R35). -/
def cacheOk (tc : List Entry) : Prop :=
  tc.length ≤ Config.maxEntries ∧ (∀ e ∈ tc, e.ok) ∧ tc.Pairwise Entry.distinct

/-- The invariant of the core. -/
def State.Inv (s : State) : Prop := Memory.wf s.mem ∧ s.cur.ok ∧ cacheOk s.tc ∧ s.statusLegal

end Sys2Proof.Machine
end

