-- ==== Sys2Proof/Certificates/Slice0/Obligations.lean ====
section
/-! DEFINITION. The statements for the provers. Every statement is about every state, reached or not; where it needs the
invariant of the core, the invariant is a premise. In a failing answer nothing but STATUS and the model's result field
changes. Where a docstring says "model's choice" the clause rests on the log entry it names. The address tables and
formulas (40_address_translator.md R134 to R148), the format table (10_state.md R26) and the parameters (00_scope.md R10;
log entry 11) are ones that the spec itself marks as general knowledge or its own decision. -/

open Sys2Proof Sys2Proof.Machine

/-! ### Requests and their decoding -/

/-- Decode and encode agree on every well-formed instruction (30_encoding.md R90, R93, R95; the operands are named fields,
the model's choice, log entry 1). -/
def Obligations.DecodeOfEncode : Prop := ∀ i : Instr, i.wf = true → decode (encode i) = .ok i

/-- Every header that decodes is the header of exactly the instruction it decodes to, and what decodes is well-formed
(30_encoding.md R90, R93, R95). -/
def Obligations.HeaderOfDecode : Prop :=
  ∀ (r : Request) (i : Instr), decode r = .ok i → (encode i).header = r.header ∧ i.wf = true

/-- A few headers of 30_encoding.md R93 and R95, one of each family, with every operand at every value. The operands are
the model's record of named fields (the model's choice, log entry 1), and the clause for header 0x3024 gives the stream as
the first `length` bytes of `src` (the model's choice, log entry 13). -/
def Obligations.HeadersOfTheOperationMap : Prop :=
  ∀ (o : Operands) (surf : List (Nat × Pixels)),
    decode ⟨0x0000, o, surf⟩ = .ok .nop ∧
    decode ⟨0x0113, o, surf⟩ = .ok (.paddrT8 o.x o.y o.bp o.bw) ∧
    decode ⟨0x103A, o, surf⟩ = .ok (.rdpixZ16s o.x o.y o.bp o.bw) ∧
    decode ⟨0x2100, o, surf⟩ = .ok (.exp24 o.v o.alphad) ∧
    decode ⟨0x2900, o, surf⟩ = .ok (.clutrd32 o.texd o.alphad) ∧
    decode ⟨0x3024, o, surf⟩ = .ok (.swzinT4hl o.xferd o.resume (o.src.take o.length.toNat)) ∧
    decode ⟨0x4200, o, surf⟩ = .ok (.tcalias o.keyTexd o.keyClampd o.texd) ∧
    decode ⟨0x0E00, o, surf⟩ = .ok (.vmwr32 o.idx o.v)

/-- 30_encoding.md R92, the decoding order, over the operations of R93 and the formats of R95, all of them decisions of
the spec: a reserved operation, then the zero bits and a stray format, then an illegal
format; every other header decodes. A refused request changes no state except STATUS (it is taken off the port with what
it told of the backend's surfaces, the model's own fields, log entries 2, 3 and 9). -/
def Obligations.RefusedHeaders : Prop :=
  ∀ (s : State) (r : Request) (rest : List Request), s.requests = r :: rest →
    let op := (r.header >>> 8).toNat
    let zero := r.header >>> 6 &&& 3
    let psm := (r.header &&& 0x3F).toNat
    let plain := op ∈ [0x00, 0x08, 0x09, 0x0A, 0x0C, 0x0D, 0x0E, 0x20, 0x21, 0x28, 0x29, 0x2A, 0x32, 0x40, 0x41, 0x42,
      0x43, 0x44, 0x45, 0x46, 0x50, 0x51]
    let formatted := op ∈ [0x01, 0x02, 0x03, 0x10, 0x11, 0x12, 0x30, 0x31]
    let legal := psm ∈ [0x00, 0x01, 0x02, 0x0A, 0x13, 0x14, 0x1B, 0x24, 0x2C, 0x30, 0x31, 0x32, 0x3A]
    let refused := fun code : BitVec 16 => Host.Outcome.next (φ := Fault) (ρ := Refusal)
      { s with requests := rest, surf := r.surf.foldl surfSet s.surf, status := code, result := .none }
    (¬plain ∧ ¬formatted → step s = refused 0x0101) ∧
    (plain ∨ formatted → zero ≠ 0 → step s = refused 0x0101) ∧
    (plain → zero = 0 → psm ≠ 0 → step s = refused 0x0101) ∧
    (formatted → zero = 0 → ¬legal → step s = refused 0x0102) ∧
    (plain → zero = 0 → psm = 0 → ∃ i, decode r = .ok i) ∧
    (formatted → zero = 0 → legal → ∃ i, decode r = .ok i)

/-- A step runs the decoded request: it takes the request off the port, hears what the backend has drawn, and is the
meaning of the instruction there. With no request it holds its state. The port and the surfaces told with a request are
the model's choice (log entries 2, 9). -/
def Obligations.StepRunsTheDecodedRequest : Prop :=
  (∀ (s : State) (r : Request) (rest : List Request) (i : Instr), s.requests = r :: rest → decode r = .ok i →
    step s = exec i { s with requests := rest, surf := r.surf.foldl surfSet s.surf }) ∧
  ∀ s : State, s.requests = [] → step s = .next s

/-! ### Addresses -/

/-- 40_address_translator.md R148: the pixel address, the block and the page, for every format. -/
def Obligations.AddressOperations : Prop :=
  ∀ (f : Format) (x y : BitVec 12) (bp : BitVec 14) (bw : BitVec 6) (s : State), bw ≠ 0 →
    let d := fmt f
    let ppr := (bw.toNat * 64 + d.pw - 1) / d.pw
    let pageIdx := y.toNat / d.ph * ppr + x.toNat / d.pw
    let block := bp.toNat + 32 * pageIdx + blkEntry d.blk (y.toNat % d.ph / d.bkh) (x.toNat % d.pw / d.bkw)
    let upb := d.bkw * d.bkh
    let unit := block * upb + colEntry d.col (y.toNat % d.bkh) (x.toNat % d.bkw)
    exec (.paddrOf f x y bp bw) s = .next { s with status := 0x0000, result := .index unit } ∧
    exec (.baddrOf f x y bp bw) s = .next { s with status := 0x0000, result := .index block } ∧
    exec (.pgaddrOf f x y bp bw) s = .next { s with status := 0x0000, result := .index (bp.toNat / 32 + pageIdx) }

/-- A buffer width of zero is refused by every operation that addresses a pixel (40_address_translator.md R149 (a),
41_pixel_io.md R193, R194). -/
def Obligations.ZeroWidthIsRefused : Prop :=
  ∀ (f : Format) (x y : BitVec 12) (bp : BitVec 14) (v : Word32) (alphad : Desc) (s : State),
    let refused : Host.Outcome State Fault Refusal := .next { s with status := 0x0103, result := .none }
    exec (.paddrOf f x y bp 0) s = refused ∧ exec (.baddrOf f x y bp 0) s = refused ∧
    exec (.pgaddrOf f x y bp 0) s = refused ∧ exec (.rdpixOf f x y bp 0) s = refused ∧
    exec (.wrpixOf f x y bp 0 v) s = refused ∧ exec (.rdtexOf f x y bp 0 alphad) s = refused

/-- Address uniqueness over a whole buffer (40_address_translator.md R149 (e)): two pixels left of the buffer's right edge
with one `PADDR` are one pixel. -/
def Obligations.PaddrIsInjective : Prop :=
  ∀ (f : Format) (x y x' y' : BitVec 12) (bp : BitVec 14) (bw : BitVec 6) (s : State), bw ≠ 0 →
    let width := (bw.toNat * 64 + (fmt f).pw - 1) / (fmt f).pw * (fmt f).pw
    x.toNat < width → x'.toNat < width →
    exec (.paddrOf f x y bp bw) s = exec (.paddrOf f x' y' bp bw) s → x = x' ∧ y = y'

/-- The image of `PADDR` over one page is exactly the units of 32 blocks (40_address_translator.md R149 (f)). -/
def Obligations.PageImage : Prop :=
  ∀ (f : Format) (bp : BitVec 14) (bw : BitVec 6) (s : State) (n : Nat), bw ≠ 0 →
    let upb := (fmt f).bkw * (fmt f).bkh
    (bp.toNat * upb ≤ n ∧ n < (bp.toNat + 32) * upb) ↔
      ∃ x y : BitVec 12, x.toNat < (fmt f).pw ∧ y.toNat < (fmt f).ph ∧
        exec (.paddrOf f x y bp bw) s = .next { s with status := 0x0000, result := .index n }

/-- For a single-pixel operation the arena check is `BLOCK < NBLOCKS` (60_exceptions.md R405, 40_address_translator.md
R149 (d)): outside, the operation makes no access; inside, it succeeds. -/
def Obligations.ArenaCheckIsTheBlockCheck : Prop :=
  ∀ (f : Format) (x y : BitVec 12) (bp : BitVec 14) (bw : BitVec 6) (v : Word32) (alphad : Desc) (s : State), bw ≠ 0 →
    ∀ i ∈ [Instr.rdpixOf f x y bp bw, .wrpixOf f x y bp bw v, .rdtexOf f x y bp bw alphad],
      (16384 ≤ blockAddr f x.toNat y.toNat bp.toNat bw.toNat →
        exec i s = .next { s with status := 0x0104, result := .none }) ∧
      (blockAddr f x.toNat y.toNat bp.toNat bw.toNat < 16384 → ∃ t, exec i s = .next t ∧ t.status = 0x0000)

/-! ### Pixels -/

/-- 41_pixel_io.md R193: the raw value, by storage class, or the arena check of the unit. -/
def Obligations.RdpixReadsTheUnit : Prop :=
  ∀ (f : Format) (x y : BitVec 12) (bp : BitVec 14) (bw : BitVec 6) (s : State),
    let d := fmt f
    let a := pixelAddr f x.toNat y.toNat bp.toNat bw.toNat
    let gives := fun v : Word32 =>
      exec (.rdpixOf f x y bp bw) s = .next { s with status := 0x0000, result := .word v }
    let oob := exec (.rdpixOf f x y bp bw) s = .next { s with status := 0x0104, result := .none }
    (bw = 0 → exec (.rdpixOf f x y bp bw) s = .next { s with status := 0x0103, result := .none }) ∧
    (bw ≠ 0 →
      match d.cls with
      | .c32 => (4 * a + 4 ≤ 4194304 → gives (Memory.vm32 s.mem a >>> d.shift &&& d.mask)) ∧ (4194304 < 4 * a + 4 → oob)
      | .c16 => (2 * a + 2 ≤ 4194304 → gives ((Memory.vm16 s.mem a).setWidth 32)) ∧ (4194304 < 2 * a + 2 → oob)
      | .c8 => (a + 1 ≤ 4194304 → gives ((Memory.read s.mem a).setWidth 32)) ∧ (4194304 < a + 1 → oob)
      | .c4 =>
        (a / 2 + 1 ≤ 4194304 → gives ((Memory.read s.mem (a / 2) >>> (4 * (a % 2)) &&& 0xF).setWidth 32)) ∧
          (4194304 < a / 2 + 1 → oob))

/-- 41_pixel_io.md R194: the unit after the write, by storage class, every other byte of GSMEM as before, and no other
state touched (R190); a write outside the arena writes nothing. That the other bits of the unit keep their value is a
clause the spec derives (R194, from R192). -/
def Obligations.WrpixWritesTheUnit : Prop :=
  ∀ (f : Format) (x y : BitVec 12) (bp : BitVec 14) (bw : BitVec 6) (v : Word32) (s : State),
    let d := fmt f
    let a := pixelAddr f x.toNat y.toNat bp.toNat bw.toNat
    let m := d.mask <<< d.shift
    let writes := fun (first bytes : Nat) (unit : Memory → Prop) =>
      (first + bytes ≤ 4194304 → ∃ mem', unit mem' ∧
        (∀ b, b < first ∨ first + bytes ≤ b → Memory.read mem' b = Memory.read s.mem b) ∧
        exec (.wrpixOf f x y bp bw v) s = .next { s with mem := mem', status := 0x0000, result := .none }) ∧
      (4194304 < first + bytes →
        exec (.wrpixOf f x y bp bw v) s = .next { s with status := 0x0104, result := .none })
    (bw = 0 → exec (.wrpixOf f x y bp bw v) s = .next { s with status := 0x0103, result := .none }) ∧
    (bw ≠ 0 →
      match d.cls with
      | .c32 => writes (4 * a) 4 fun mem' =>
          Memory.vm32 mem' a = Memory.vm32 s.mem a &&& ~~~m ||| (v &&& d.mask) <<< d.shift
      | .c16 => writes (2 * a) 2 fun mem' => Memory.vm16 mem' a = (v &&& 0xFFFF).setWidth 16
      | .c8 => writes a 1 fun mem' => Memory.read mem' a = (v &&& 0xFF).setWidth 8
      | .c4 => writes (a / 2) 1 fun mem' =>
          Memory.read mem' (a / 2) = Memory.read s.mem (a / 2) &&& ~~~((0xF : Byte) <<< (4 * (a % 2))) |||
            (v &&& 0xF).setWidth 8 <<< (4 * (a % 2)))

/-- 41_pixel_io.md R223: a texel read is the pixel read followed by the conversion of its format. -/
def Obligations.RdtexConvertsTheRawValue : Prop :=
  ∀ (f : Format) (x y : BitVec 12) (bp : BitVec 14) (bw : BitVec 6) (alphad : Desc) (s : State), bw ≠ 0 →
    blockAddr f x.toNat y.toNat bp.toNat bw.toNat < 16384 →
    let raw := readPixel s.mem f x.toNat y.toNat bp.toNat bw.toNat
    exec (.rdpixOf f x y bp bw) s = .next { s with status := 0x0000, result := .word raw } ∧
    exec (.rdtexOf f x y bp bw alphad) s = .next { s with
      status := 0x0000
      result := .word (match f with
        | .ct32 | .z32 => raw
        | .ct24 | .z24 => expand24 (raw.setWidth 24) alphad
        | .ct16 | .ct16s | .z16 | .z16s => expand16 (raw.setWidth 16) alphad
        | .t8 | .t8h | .t4 | .t4hl | .t4hh => s.clut32[raw.toNat]?.getD 0) }

/-- Round trip (41_pixel_io.md R195 (a)): a pixel written and read again is the value truncated to the format's depth. -/
def Obligations.PixelRoundTrip : Prop :=
  ∀ (f : Format) (x y : BitVec 12) (bp : BitVec 14) (bw : BitVec 6) (v : Word32) (s : State), bw ≠ 0 →
    blockAddr f x.toNat y.toNat bp.toNat bw.toNat < 16384 →
    ∃ t, exec (.wrpixOf f x y bp bw v) s = .next t ∧
      exec (.rdpixOf f x y bp bw) t =
        .next { t with status := 0x0000, result := .word (BitVec.ofNat 32 (v.toNat % 2 ^ rawBits f)) }

/-- Non-interference (41_pixel_io.md R195 (b)): a pixel write changes the result of a pixel read, in any format and any
buffer, only if the two footprints (40_address_translator.md R189) have a bit in common. -/
def Obligations.PixelNonInterference : Prop :=
  ∀ (f g : Format) (x y x' y' : BitVec 12) (bp bp' : BitVec 14) (bw bw' : BitVec 6) (v : Word32) (s t u : State),
    (∀ n, ¬((footBit f x.toNat y.toNat bp.toNat bw.toNat ≤ n ∧
          n < footBit f x.toNat y.toNat bp.toNat bw.toNat + rawBits f) ∧
        footBit g x'.toNat y'.toNat bp'.toNat bw'.toNat ≤ n ∧
          n < footBit g x'.toNat y'.toNat bp'.toNat bw'.toNat + rawBits g)) →
    exec (.wrpixOf f x y bp bw v) s = .next t →
    exec (.rdpixOf g x' y' bp' bw') s = .next u →
    exec (.rdpixOf g x' y' bp' bw') t = .next { t with status := u.status, result := u.result }

/-! ### Colours -/

/-- 42_color_clut.md R252: `EXP16`. -/
def Obligations.Exp16ExpandsTheColour : Prop :=
  ∀ (v : Word32) (alphad : Desc) (s : State),
    let c := v &&& 0xFFFF
    let ta0 := (alphad &&& 0xFF).setWidth 32
    let ta1 := (alphad >>> 32 &&& 0xFF).setWidth 32
    let aem := alphad.getLsbD 15
    let a : Word32 := if c.getLsbD 15 then ta1 else if aem = true ∧ c = 0 then 0 else ta0
    let r := (c &&& 0x1F) <<< 3
    let g := (c >>> 5 &&& 0x1F) <<< 3
    let b := (c >>> 10 &&& 0x1F) <<< 3
    exec (.exp16 v alphad) s =
      .next { s with status := 0x0000, result := .word (a <<< 24 ||| b <<< 16 ||| g <<< 8 ||| r) }

/-- 42_color_clut.md R253: `EXP24`. -/
def Obligations.Exp24ExpandsTheColour : Prop :=
  ∀ (v : Word32) (alphad : Desc) (s : State),
    let c := v &&& 0xFFFFFF
    let ta0 := (alphad &&& 0xFF).setWidth 32
    let aem := alphad.getLsbD 15
    let a : Word32 := if aem = true ∧ c = 0 then 0 else ta0
    exec (.exp24 v alphad) s = .next { s with status := 0x0000, result := .word (a <<< 24 ||| c) }

/-- 42_color_clut.md R254: the colour bits of an expanded colour shifted back, and the top bit, reproduce it. -/
def Obligations.Exp16KeepsTheColourBits : Prop :=
  ∀ (v : Word32) (alphad : Desc) (s : State), ∃ e : Word32,
    exec (.exp16 v alphad) s = .next { s with status := 0x0000, result := .word e } ∧
    (v &&& 0x8000) ||| ((e >>> 16 &&& 0xFF) >>> 3) <<< 10 ||| ((e >>> 8 &&& 0xFF) >>> 3) <<< 5 ||| (e &&& 0xFF) >>> 3 =
      v &&& 0xFFFF

/-! ### The palette -/

/-- 42_color_clut.md R260, with R257, R258, R259, R263 and R264: a `CLUTWR` that has to rebuild reads the palette from
GSMEM, stores exactly its entries, the 32-bit ones split over the two banks, and records its signature; with a source unit
outside the arena it changes nothing. That the 256 entries of a 16-bit palette with `CSM = 0` take two blocks and not one
is the model's reading of R263 (log entry 26). -/
def Obligations.ClutwrRebuildsThePalette : Prop :=
  ∀ (texd clutd : Desc) (s : State) (f cpf : Format),
    let n := (fmt f).pal
    let b := 16 * (Texd.csa texd).toNat
    let csm := Texd.csm texd
    let sig : ClutSig := ⟨n, Texd.cpsm texd, Texd.cbp texd, csm, Texd.csa texd, if csm then Clutd.cbw clutd else 0,
      if csm then Clutd.cou clutd else 0, if csm then Clutd.cov clutd else 0⟩
    let swapped := fun i : Nat => i &&& 0xE7 ||| (i &&& 0x08) <<< 1 ||| (i &&& 0x10) >>> 1
    let px := fun i : Nat =>
      if csm then (Clutd.cou clutd).toNat * 16 + i else if n = 16 then i % 8 else swapped i % 16
    let py := fun i : Nat => if csm then (Clutd.cov clutd).toNat else if n = 16 then i / 8 else swapped i / 16
    let pbp := (Texd.cbp texd).toNat
    let pbw := if csm then (Clutd.cbw clutd).toNat else 1
    let entry := fun i : Nat => readPixel s.mem cpf (px i) (py i) pbp pbw
    formatOf (Texd.psm texd) = some f → n ≠ 0 →
    (Texd.cpsm texd = 0x0 ∧ cpf = .ct32 ∧ b + n ≤ 256 ∨ Texd.cpsm texd = 0x2 ∧ cpf = .ct16 ∧ b + n ≤ 512 ∨
      Texd.cpsm texd = 0xA ∧ cpf = .ct16s ∧ b + n ≤ 512) →
    (csm = true → Clutd.cbw clutd ≠ 0) →
    (s.clutDirty = true ∨ s.clutSnap ≠ some sig) →
    ((∀ i < n, blockAddr cpf (px i) (py i) pbp pbw < 16384) →
      ∃ clut', exec (.clutwr texd clutd) s = .next
          { s with clut := clut', clutSnap := some sig, clutDirty := false, status := 0x0000, result := .none } ∧
        (∀ i < n, clutAt clut' (b + i) = (entry i).setWidth 16 ∧
          (cpf = .ct32 → clutAt clut' (b + i + 256) = (entry i >>> 16).setWidth 16)) ∧
        ∀ k < 512, ¬(b ≤ k ∧ k < b + n) → ¬(cpf = .ct32 ∧ b + 256 ≤ k ∧ k < b + 256 + n) →
          clutAt clut' k = clutAt s.clut k) ∧
    ((∃ i < n, 16384 ≤ blockAddr cpf (px i) (py i) pbp pbw) →
      exec (.clutwr texd clutd) s = .next { s with status := 0x0104, result := .none })

/-- 42_color_clut.md R260 (a): with an unchanged signature and the dirty flag down a `CLUTWR` changes nothing. -/
def Obligations.ClutwrShortCircuits : Prop :=
  ∀ (texd clutd : Desc) (s : State) (f : Format) (n : Nat),
    formatOf (Texd.psm texd) = some f → n = (fmt f).pal → n ≠ 0 →
    (Texd.cpsm texd = 0x0 ∧ 16 * (Texd.csa texd).toNat + n ≤ 256 ∨
      (Texd.cpsm texd = 0x2 ∨ Texd.cpsm texd = 0xA) ∧ 16 * (Texd.csa texd).toNat + n ≤ 512) →
    (Texd.csm texd = true → Clutd.cbw clutd ≠ 0) →
    s.clutDirty = false → s.clutSnap = some (clutSig n texd clutd) →
    exec (.clutwr texd clutd) s = .next { s with status := 0x0000, result := .none }

/-- 42_color_clut.md R261 and R267: the checks of `CLUTWR` and `CLUTRD32`, in their order. The bounds 256 and 512 on the
base are R258's, which the spec takes from general knowledge and decides; the legal CPSM codes are those of 30_encoding.md
R97, a decision of the spec, with `CLUT24_AS_32` false (log entries 11 and 24). -/
def Obligations.PaletteChecks : Prop :=
  ∀ (texd clutd alphad : Desc) (s : State),
    let cv := fun code : BitVec 16 => Host.Outcome.next (φ := Fault) (ρ := Refusal) { s with status := code, result := .none }
    let both := fun code : BitVec 16 => exec (.clutwr texd clutd) s = cv code ∧ exec (.clutrd32 texd alphad) s = cv code
    let csa := (Texd.csa texd).toNat
    (formatOf (Texd.psm texd) = none → both 0x0102) ∧
    ∀ f, formatOf (Texd.psm texd) = some f →
      ((fmt f).pal = 0 → both 0x0109) ∧
      ((fmt f).pal ≠ 0 → Texd.cpsm texd ∉ [0x0, 0x2, 0xA] → both 0x010A) ∧
      ((fmt f).pal ≠ 0 → Texd.cpsm texd = 0x0 → 256 < 16 * csa + (fmt f).pal → both 0x010B) ∧
      ((fmt f).pal ≠ 0 → Texd.cpsm texd ∈ [0x2, 0xA] → 512 < 16 * csa + (fmt f).pal → both 0x010B) ∧
      ((fmt f).pal ≠ 0 →
        (Texd.cpsm texd = 0x0 ∧ 16 * csa + (fmt f).pal ≤ 256 ∨
          Texd.cpsm texd ∈ [0x2, 0xA] ∧ 16 * csa + (fmt f).pal ≤ 512) →
        Texd.csm texd = true → Clutd.cbw clutd = 0 → exec (.clutwr texd clutd) s = cv 0x0103)

/-- 42_color_clut.md R266: `CLUTRD32` makes the canonical copy of the palette, keeps the entries past it, and changes
nothing else. -/
def Obligations.Clutrd32CopiesThePalette : Prop :=
  ∀ (texd alphad : Desc) (s : State) (f : Format),
    let n := (fmt f).pal
    let b := 16 * (Texd.csa texd).toNat
    formatOf (Texd.psm texd) = some f → n ≠ 0 →
    (Texd.cpsm texd = 0x0 ∧ b + n ≤ 256 ∨ Texd.cpsm texd ∈ [0x2, 0xA] ∧ b + n ≤ 512) →
    ∃ clut32', exec (.clutrd32 texd alphad) s = .next
        { s with clut32 := clut32', status := 0x0000, result := .palette clut32' } ∧
      ∀ i (h : i < 256), clut32'[i] =
        if i < n then
          if Texd.cpsm texd = 0x0 then
            (clutAt s.clut (b + i + 256)).setWidth 32 <<< 16 ||| (clutAt s.clut (b + i)).setWidth 32
          else expand16 (clutAt s.clut (b + i)) alphad
        else s.clut32[i]

/-- CLUT determinism (42_color_clut.md R269): after a rebuild and a read, the entries of the palette depend on the palette
units of GSMEM and on the descriptors only, not on any other state. -/
def Obligations.ClutIsDeterministic : Prop :=
  ∀ (texd clutd alphad : Desc) (s s' t t' u u' : State) (f cpf : Format),
    formatOf (Texd.psm texd) = some f → cpsmFormat (Texd.cpsm texd) = some cpf →
    s.clutDirty = true → s'.clutDirty = true →
    (∀ i < (fmt f).pal, srcEntry s.mem cpf (fmt f).pal texd clutd i = srcEntry s'.mem cpf (fmt f).pal texd clutd i) →
    exec (.clutwr texd clutd) s = .next t → exec (.clutwr texd clutd) s' = .next t' → t.status = 0x0000 →
    exec (.clutrd32 texd alphad) t = .next u → exec (.clutrd32 texd alphad) t' = .next u' →
    t'.status = 0x0000 ∧ u.status = 0x0000 ∧ u'.status = 0x0000 ∧
      ∀ i (h : i < 256), i < (fmt f).pal → u.clut32[i] = u'.clut32[i]

/-- 42_color_clut.md R268: `CLUTINV` raises the dirty flag and changes nothing else. -/
def Obligations.ClutinvRaisesTheDirtyFlag : Prop :=
  ∀ s : State, exec .clutinv s = .next { s with clutDirty := true, status := 0x0000, result := .none }

/-! ### Bulk transfers -/

/-- 43_swizzle_engine.md R290, R285, R292, R293: a `SWZIN` whose checks pass writes as many whole pixels as the stream
holds and the rectangle has room for, one after another in raster order from its start, each by the pixel write of
41_pixel_io.md R194, so that the bits of a unit outside the plane or the nibble keep their value; it moves the cursor past
them and changes no byte outside their units, and a pixel inside the buffer's width then holds its element. With a unit
outside the arena nothing changes. -/
def Obligations.SwzinTransfersPixels : Prop :=
  ∀ (f : Format) (d : Xferd) (resume : Bool) (src : List Byte) (s : State) (p : Nat × Nat),
    let x0 := (xferDsax d).toNat
    let y0 := (xferDsay d).toNat
    let w := (xferRrw d).toNat
    let h := (xferRrh d).toNat
    let bits := (fmt f).trbpp
    let bp := (xferDbp d).toNat
    let bw := (xferDbw d).toNat
    let first := (p.2 - y0) * w + (p.1 - x0)
    let pos := fun j : Nat => (x0 + (first + j) % w, y0 + (first + j) / w)
    let left := w * h - first
    let n := min left (8 * src.length / bits)
    let unit := fun j : Nat => unitByte f (pos j).1 (pos j).2 bp bw
    let mem' := (List.range n).foldl (fun m j => writePixel m f (pos j).1 (pos j).2 bp bw (lin src bits j)) s.mem
    let cur' : Cursor := if n = left then ⟨0, 0, false⟩ else ⟨BitVec.ofNat 11 (pos n).1, BitVec.ofNat 11 (pos n).2, true⟩
    w ≠ 0 → h ≠ 0 → xferXdir d = 0 → xferDir d = 0 → xferDpsm d = f.code → x0 + w ≤ 2048 → y0 + h ≤ 2048 →
    xferDbw d ≠ 0 →
    (resume = false ∧ p = (x0, y0) ∨
      resume = true ∧ s.cur.active = true ∧ p = (s.cur.x.toNat, s.cur.y.toNat) ∧ x0 ≤ p.1 ∧ p.1 < x0 + w ∧ y0 ≤ p.2 ∧
        p.2 < y0 + h) →
    ((∀ j < n, blockAddr f (pos j).1 (pos j).2 bp bw < 16384) →
      exec (.swzinOf f d resume src) s = .next
          { s with mem := mem', cur := cur', status := 0x0000,
                   result := .transfer cur'.x cur'.y cur'.active ((n * bits + 7) / 8) } ∧
        (∀ b, (∀ j < n, b < unit j ∨ unit j + unitBytes f ≤ b) → Memory.read mem' b = Memory.read s.mem b) ∧
        (x0 + w ≤ (bw * 64 + (fmt f).pw - 1) / (fmt f).pw * (fmt f).pw →
          ∀ j < n, readPixel mem' f (pos j).1 (pos j).2 bp bw = lin src bits j)) ∧
    ((∃ j < n, 16384 ≤ blockAddr f (pos j).1 (pos j).2 bp bw) →
      exec (.swzinOf f d resume src) s = .next { s with status := 0x0104, result := .none })

/-- 43_swizzle_engine.md R291: a transfer in two calls leaves GSMEM and the cursor as one call with the consumed bytes of
the first and then the bytes of the second does. -/
def Obligations.SwzinCallsCompose : Prop :=
  ∀ (f : Format) (d : Xferd) (resume : Bool) (src₁ src₂ : List Byte) (s t u : State) (x y : BitVec 11) (active : Bool)
    (consumed : Nat),
    exec (.swzinOf f d resume src₁) s = .next t → t.status = 0x0000 → t.result = .transfer x y active consumed →
    exec (.swzinOf f d true src₂) t = .next u → u.status = 0x0000 →
    ∃ v, exec (.swzinOf f d resume (src₁.take consumed ++ src₂)) s = .next v ∧ v.status = 0x0000 ∧ v.mem = u.mem ∧
      v.cur = u.cur

/-- 43_swizzle_engine.md R290: resuming with no transfer in flight, or with the cursor outside the rectangle, is refused
and changes nothing. -/
def Obligations.SwzinRefusesABadCursor : Prop :=
  ∀ (f : Format) (d : Xferd) (src : List Byte) (s : State),
    let x0 := (xferDsax d).toNat
    let y0 := (xferDsay d).toNat
    let w := (xferRrw d).toNat
    let h := (xferRrh d).toNat
    w ≠ 0 → h ≠ 0 → xferXdir d = 0 → xferDir d = 0 → xferDpsm d = f.code → x0 + w ≤ 2048 → y0 + h ≤ 2048 →
    xferDbw d ≠ 0 →
    (s.cur.active = false ∨ s.cur.x.toNat < x0 ∨ x0 + w ≤ s.cur.x.toNat ∨ s.cur.y.toNat < y0 ∨ y0 + h ≤ s.cur.y.toNat) →
    exec (.swzinOf f d true src) s = .next { s with status := 0x010C, result := .none }

/-- The checks on a transfer descriptor in their order (30_encoding.md R105, 43_swizzle_engine.md R284, R290, R328), for
`SWZIN` and for `XFERMM`. -/
def Obligations.TransferChecks : Prop :=
  ∀ (f : Format) (d : Xferd) (resume : Bool) (src : List Byte) (s : State),
    let swz := fun code : BitVec 16 => exec (.swzinOf f d resume src) s = .next { s with status := code, result := .none }
    let mm := fun code : BitVec 16 => exec (.xfermm d) s = .next { s with status := code, result := .none }
    let w := (xferRrw d).toNat
    let h := (xferRrh d).toNat
    let passes := fun x y : Nat => 2048 < x + w ∨ 2048 < y + h
    let dstPasses := passes (xferDsax d).toNat (xferDsay d).toNat
    let srcPasses := passes (xferSsax d).toNat (xferSsay d).toNat
    (w = 0 ∨ h = 0 → swz 0x0105 ∧ mm 0x0105) ∧
    (w ≠ 0 → h ≠ 0 →
      (xferXdir d ≠ 0 ∨ xferDir d ≠ 0 → swz 0x0107) ∧
      (xferXdir d ≠ 2 ∨ xferDir d ≠ 0 → mm 0x0107) ∧
      (xferXdir d = 0 → xferDir d = 0 →
        (xferDpsm d ≠ f.code → swz 0x0102) ∧
        (xferDpsm d = f.code → dstPasses → swz 0x0104) ∧
        (xferDpsm d = f.code → ¬dstPasses → xferDbw d = 0 → swz 0x0103)) ∧
      (xferXdir d = 2 → xferDir d = 0 →
        (formatOf (xferSpsm d) = none ∨ formatOf (xferDpsm d) = none → mm 0x0102) ∧
        ∀ g g', formatOf (xferSpsm d) = some g → formatOf (xferDpsm d) = some g' →
          (srcPasses ∨ dstPasses → mm 0x0104) ∧
          (¬srcPasses → ¬dstPasses → xferSbw d = 0 ∨ xferDbw d = 0 → mm 0x0103) ∧
          (¬srcPasses → ¬dstPasses → xferSbw d ≠ 0 → xferDbw d ≠ 0 → (fmt g).trbpp ≠ (fmt g').trbpp → mm 0x0102)))

/-- 43_swizzle_engine.md R295, R296: an `UNSWZ` whose checks pass changes nothing and returns the rows of the rectangle,
every element of a row being the pixel's value in the mode, an unused high nibble zero. -/
def Obligations.UnswzReturnsTheRows : Prop :=
  ∀ (f : Format) (rect : RectArg) (bp : BitVec 14) (bw : BitVec 6) (mode : BitVec 2) (alphad : Desc) (pitch : Word32)
    (s : State) (e : Nat),
    let l := rect.left.toNat
    let t := rect.top.toNat
    let r := rect.right.toNat
    let b := rect.bottom.toNat
    let rowbytes := ((r - l) * e + 7) / 8
    l < r → t < b → r ≤ 2048 → b ≤ 2048 → bw ≠ 0 →
    (mode = 0 ∧ e = (fmt f).trbpp ∨ mode = 1 ∧ e = 32 ∨ mode = 2 ∧ (fmt f).pal ≠ 0 ∧ e = 8) →
    rowbytes ≤ pitch.toNat →
    (∀ x y, l ≤ x → x < r → t ≤ y → y < b → blockAddr f x y bp.toNat bw.toNat < 16384) →
    ∃ rows : List (List Byte),
      exec (.unswzOf f rect bp bw mode alphad pitch) s =
        .next { s with status := 0x0000, result := .rows pitch.toNat rows } ∧
      rows.length = b - t ∧
      ∀ j < b - t, (rows.getD j []).length = rowbytes ∧
        (∀ i < r - l, lin (rows.getD j []) e i =
          if mode = 1 then readTexel s.mem s.clut32 alphad f bp.toNat bw.toNat (l + i) (t + j)
          else readPixel s.mem f (l + i) (t + j) bp.toNat bw.toNat) ∧
        (e = 4 → (r - l) % 2 = 1 → lin (rows.getD j []) 4 (r - l) = 0)

/-- The checks of `UNSWZ` (43_swizzle_engine.md R295, R296, R284, 30_encoding.md R110) and of `TCINVAL`
(44_texture_cache.md R344), in their order. -/
def Obligations.RectangleChecks : Prop :=
  ∀ (f : Format) (rect : RectArg) (bp : BitVec 14) (bw psm : BitVec 6) (mode : BitVec 2) (alphad : Desc) (pitch : Word32)
    (s : State),
    let unswz := fun code : BitVec 16 =>
      exec (.unswzOf f rect bp bw mode alphad pitch) s = .next { s with status := code, result := .none }
    let inval := fun code : BitVec 16 => exec (.tcinval bp bw psm rect) s = .next { s with status := code, result := .none }
    let l := rect.left.toNat
    let t := rect.top.toNat
    let r := rect.right.toNat
    let b := rect.bottom.toNat
    let legal := formatOf psm ≠ none ∧ bw ≠ 0
    let badMode := mode = 3 ∨ mode = 2 ∧ (fmt f).pal = 0
    let e := if mode = 0 then (fmt f).trbpp else if mode = 1 then 32 else 8
    (formatOf psm = none → inval 0x0102) ∧ (formatOf psm ≠ none → bw = 0 → inval 0x0103) ∧
    (r < l ∨ b < t → unswz 0x0106 ∧ (legal → inval 0x0106)) ∧
    (l ≤ r → t ≤ b → l = r ∨ t = b → unswz 0x0105 ∧ (legal → inval 0x0105)) ∧
    (l < r → t < b → 2048 < r ∨ 2048 < b → unswz 0x0104 ∧ (legal → inval 0x0104)) ∧
    (l < r → t < b → r ≤ 2048 → b ≤ 2048 →
      (bw = 0 → unswz 0x0103) ∧
      (bw ≠ 0 → badMode → unswz 0x010D) ∧
      (bw ≠ 0 → ¬badMode → pitch.toNat < ((r - l) * e + 7) / 8 → unswz 0x010E) ∧
      (bw ≠ 0 → ¬badMode → ((r - l) * e + 7) / 8 ≤ pitch.toNat →
        (∃ x y, l ≤ x ∧ x < r ∧ t ≤ y ∧ y < b ∧ 16384 ≤ blockAddr f x y bp.toNat bw.toNat) → unswz 0x0104))

/-- Round trip (43_swizzle_engine.md R297): `SWZIN` of a whole rectangle and then `UNSWZ` of it in mode `RAW` returns the
elements of the stream, and the stream itself when a row is whole bytes. The rectangle lies within the buffer's width:
past it two pixels may be one unit (95_test_vectors.md V1 (e)) and the source's law cannot hold (log entry 25). -/
def Obligations.SwzinThenUnswzIsTheStream : Prop :=
  ∀ (f : Format) (d : Xferd) (src : List Byte) (alphad : Desc) (pitch : Word32) (s t : State),
    let x0 := (xferDsax d).toNat
    let y0 := (xferDsay d).toNat
    let w := (xferRrw d).toNat
    let h := (xferRrh d).toNat
    let bits := (fmt f).trbpp
    let rect : RectArg := ⟨BitVec.ofNat 12 x0, BitVec.ofNat 12 y0, BitVec.ofNat 12 (x0 + w), BitVec.ofNat 12 (y0 + h)⟩
    exec (.swzinOf f d false src) s = .next t → t.status = 0x0000 →
    src.length = (w * h * bits + 7) / 8 →
    x0 + w ≤ ((xferDbw d).toNat * 64 + (fmt f).pw - 1) / (fmt f).pw * (fmt f).pw →
    (w * bits + 7) / 8 ≤ pitch.toNat →
    ∃ rows : List (List Byte),
      exec (.unswzOf f rect (xferDbp d) (xferDbw d) 0 alphad pitch) t =
        .next { t with status := 0x0000, result := .rows pitch.toNat rows } ∧
      (∀ j < h, ∀ i < w, lin (rows.getD j []) bits i = lin src bits (j * w + i)) ∧
      (w * bits % 8 = 0 → rows.flatten = src)

/-- 43_swizzle_engine.md R328, R285: an `XFERMM` whose checks pass copies pixel by pixel in raster order, a later read
seeing an earlier write, and changes no byte outside the destination units; with a unit outside the arena nothing
changes. -/
def Obligations.XfermmCopiesPixelByPixel : Prop :=
  ∀ (d : Xferd) (s : State) (f g : Format),
    let w := (xferRrw d).toNat
    let h := (xferRrh d).toNat
    let src := fun k : Nat => ((xferSsax d).toNat + k % w, (xferSsay d).toNat + k / w)
    let dst := fun k : Nat => ((xferDsax d).toNat + k % w, (xferDsay d).toNat + k / w)
    let sbp := (xferSbp d).toNat
    let sbw := (xferSbw d).toNat
    let dbp := (xferDbp d).toNat
    let dbw := (xferDbw d).toNat
    let unit := fun k : Nat => unitByte g (dst k).1 (dst k).2 dbp dbw
    let mem' := (List.range (w * h)).foldl
      (fun m k => writePixel m g (dst k).1 (dst k).2 dbp dbw (readPixel m f (src k).1 (src k).2 sbp sbw)) s.mem
    w ≠ 0 → h ≠ 0 → xferXdir d = 2 → xferDir d = 0 → formatOf (xferSpsm d) = some f → formatOf (xferDpsm d) = some g →
    (xferSsax d).toNat + w ≤ 2048 → (xferSsay d).toNat + h ≤ 2048 → (xferDsax d).toNat + w ≤ 2048 →
    (xferDsay d).toNat + h ≤ 2048 → xferSbw d ≠ 0 → xferDbw d ≠ 0 → (fmt f).trbpp = (fmt g).trbpp →
    ((∀ k < w * h, blockAddr f (src k).1 (src k).2 sbp sbw < 16384 ∧ blockAddr g (dst k).1 (dst k).2 dbp dbw < 16384) →
      exec (.xfermm d) s = .next { s with mem := mem', status := 0x0000, result := .none } ∧
        ∀ b, (∀ k < w * h, b < unit k ∨ unit k + unitBytes g ≤ b) → Memory.read mem' b = Memory.read s.mem b) ∧
    ((∃ k < w * h, 16384 ≤ blockAddr f (src k).1 (src k).2 sbp sbw ∨ 16384 ≤ blockAddr g (dst k).1 (dst k).2 dbp dbw) →
      exec (.xfermm d) s = .next { s with status := 0x0104, result := .none })

/-! ### The texture cache -/

/-- The operand checks of `TCFETCH` (44_texture_cache.md R334), `TCRT` (R348), `TCALIAS` (R350) and `TCDROP` (R358), in
their order, and `NO_ENTRY`. -/
def Obligations.CacheOperandChecks : Prop :=
  ∀ (texd alphad clampd key keyClampd : Desc) (handle : Nat) (isRt : Bool) (s : State),
    let fails := fun (i : Instr) (code : BitVec 16) => exec i s = .next { s with status := code, result := .none }
    let fetch := Instr.tcfetch texd alphad clampd
    let rt := Instr.tcrt texd handle
    let target := Instr.tcalias key keyClampd texd
    let legal := formatOf (Texd.psm texd) ≠ none
    let keyLegal := formatOf (Texd.psm key) ≠ none
    let tooBig := 10 < (Texd.tw texd).toNat ∨ 10 < (Texd.th texd).toNat
    (¬legal → fails fetch 0x0102 ∧ fails rt 0x0102 ∧ fails target 0x0102) ∧
    (¬keyLegal → fails target 0x0102 ∧ fails (.tcdrop key keyClampd isRt) 0x0102) ∧
    (legal → Texd.tbw texd = 0 → fails fetch 0x0103 ∧ fails rt 0x0103 ∧ (keyLegal → fails target 0x0103)) ∧
    (legal → Texd.tbw texd ≠ 0 → tooBig → fails fetch 0x0108 ∧ fails rt 0x0108 ∧ (keyLegal → fails target 0x0108)) ∧
    (legal → keyLegal → Texd.tbw texd ≠ 0 → ¬tooBig →
      (∀ e ∈ s.tc, ¬(e.isRt = true ∧ e.key.bp = Texd.tbp0 key ∧ some e.key.psm = formatOf (Texd.psm key))) →
      fails target 0x010F)

/-- 44_texture_cache.md R335, 60_exceptions.md R402: with legal operands `TCFETCH` is refused exactly when the format is
indexed and the palette format is not legal, and then nothing changes but STATUS. -/
def Obligations.TcfetchRefusesExactlyContradictions : Prop :=
  ∀ (texd alphad clampd : Desc) (s : State) (f : Format),
    formatOf (Texd.psm texd) = some f → Texd.tbw texd ≠ 0 → (Texd.tw texd).toNat ≤ 10 → (Texd.th texd).toNat ≤ 10 →
    ((fmt f).pal ≠ 0 ∧ Texd.cpsm texd ∉ [0x0, 0x2, 0xA] →
      exec (.tcfetch texd alphad clampd) s = .next { s with status := 0x020A, result := .none }) ∧
    (¬((fmt f).pal ≠ 0 ∧ Texd.cpsm texd ∉ [0x0, 0x2, 0xA]) →
      ∀ t, exec (.tcfetch texd alphad clampd) s = .next t → t.status ≠ 0x020A)

/-- 44_texture_cache.md R333, R334, R338, R339, R361: a miss decodes the required rectangle into a new entry at the end of
the cache, after the oldest texture has gone if the cache was full, and hands it out with its pitch (30_encoding.md R112);
when a texel lies outside the arena it changes nothing. -/
def Obligations.TcfetchMissMakesAnEntry : Prop :=
  ∀ (texd alphad clampd : Desc) (s : State) (f : Format) (room : List Entry),
    let key : Key := ⟨Texd.tbp0 texd, f, Texd.tbw texd, Texd.tw texd, Texd.th texd, Clampd.wms clampd, Clampd.wmt clampd,
      match f with
      | .t8 | .t4 | .t8h | .t4hl | .t4hh => .palette (s.clut32.toList.take (fmt f).pal)
      | .ct24 | .ct16 | .ct16s | .z24 | .z16 | .z16s => .alpha (Alphad.ta0 alphad) (Alphad.ta1 alphad) (Alphad.aem alphad)
      | .ct32 | .z32 => .empty⟩
    let range := fun (m : BitVec 2) (lo hi size : Nat) =>
      if m = 2 ∧ lo ≤ hi ∧ lo < size then (lo, min (hi + 1) size)
      else if m = 3 ∧ hi < size then (hi, min ((lo ||| hi) + 1) size) else (0, size)
    let u := range (Clampd.wms clampd) (Clampd.minu clampd).toNat (Clampd.maxu clampd).toNat (2 ^ (Texd.tw texd).toNat)
    let v := range (Clampd.wmt clampd) (Clampd.minv clampd).toNat (Clampd.maxv clampd).toNat (2 ^ (Texd.th texd).toNat)
    let req : Rect := ⟨u.1, v.1, u.2, v.2⟩
    let bp := (Texd.tbp0 texd).toNat
    let bw := (Texd.tbw texd).toNat
    formatOf (Texd.psm texd) = some f → Texd.tbw texd ≠ 0 → (Texd.tw texd).toNat ≤ 10 → (Texd.th texd).toNat ≤ 10 →
    ((fmt f).pal ≠ 0 → Texd.cpsm texd ∈ [0x0, 0x2, 0xA]) →
    (∀ e ∈ s.tc, ¬(e.isRt = true ∧ e.key.bp = Texd.tbp0 texd ∧ e.key.psm = f)) →
    (∀ e ∈ s.tc, ¬(e.isRt = false ∧ e.key = key)) →
    (s.tc.length ≠ Config.maxEntries ∧ room = s.tc ∨
      s.tc.length = Config.maxEntries ∧ ∃ l e r, s.tc = l ++ e :: r ∧ room = l ++ r ∧ e.isRt = false ∧
        (∀ x ∈ s.tc, x.isRt = false → x.age ≤ e.age) ∧ ∀ x ∈ l, x.isRt = false → x.age < e.age) →
    ((∀ x y, req.has x y = true → blockAddr f x y bp bw < 16384) →
      ∃ rows, rowsFill rows req ∧
        (∀ x y, req.has x y = true →
          texelAt rows (x - req.left) (y - req.top) = readTexel s.mem s.clut32 alphad f bp bw x y) ∧
        exec (.tcfetch texd alphad clampd) s = .next
          { s with tc := room ++ [⟨key, .bitmap rows, req, [], 0, []⟩], status := 0x0000, result := .texture (4 * 2 ^ (Texd.tw texd).toNat) rows req }) ∧
    ((∃ x y, req.has x y = true ∧ 16384 ≤ blockAddr f x y bp bw) →
      exec (.tcfetch texd alphad clampd) s = .next { s with status := 0x0104, result := .none })

/-- 44_texture_cache.md R336: a clean hit whose required rectangle is valid already returns the entry as it is, with its
pitch (30_encoding.md R112), and makes it recently used. -/
def Obligations.TcfetchCleanHit : Prop :=
  ∀ (texd alphad clampd : Desc) (s : State) (f : Format) (l r : List Entry) (e : Entry) (rows : Pixels),
    formatOf (Texd.psm texd) = some f → Texd.tbw texd ≠ 0 → (Texd.tw texd).toNat ≤ 10 → (Texd.th texd).toNat ≤ 10 →
    ((fmt f).pal ≠ 0 → Texd.cpsm texd ∈ [0x0, 0x2, 0xA]) →
    (∀ x ∈ s.tc, ¬(x.isRt = true ∧ x.key.bp = Texd.tbp0 texd ∧ x.key.psm = f)) →
    s.tc = l ++ e :: r → (∀ x ∈ l, ¬(x.isRt = false ∧ x.key = e.key)) →
    e.key = fetchKey f texd alphad clampd s.clut32 → e.content = .bitmap rows → rowsFill rows e.valid →
    e.dirty = [] → (requiredRect clampd e.width e.height).within e.valid →
    exec (.tcfetch texd alphad clampd) s = .next
      { s with tc := l ++ { e with age := 0 } :: r, status := 0x0000,
               result := .texture (4 * 2 ^ (Texd.tw texd).toNat) rows e.valid }

/-- 44_texture_cache.md R336, R337: a hit, clean or dirty, decodes the texels that are dirty and valid or newly required,
keeps every other texel, leaves the entry clean, recently used and valid over the union, and hands it out with its pitch
(30_encoding.md R112). -/
def Obligations.TcfetchHitRefreshesAndExtends : Prop :=
  ∀ (texd alphad clampd : Desc) (s : State) (f : Format) (l r : List Entry) (e : Entry) (rows : Pixels),
    let u := e.valid.union (requiredRect clampd e.width e.height)
    let bp := (Texd.tbp0 texd).toNat
    let bw := (Texd.tbw texd).toNat
    let decoded := fun x y => e.valid.has x y = false ∨ ∃ d, dirtyQuery e = some d ∧ d.has x y = true
    formatOf (Texd.psm texd) = some f → Texd.tbw texd ≠ 0 → (Texd.tw texd).toNat ≤ 10 → (Texd.th texd).toNat ≤ 10 →
    ((fmt f).pal ≠ 0 → Texd.cpsm texd ∈ [0x0, 0x2, 0xA]) →
    (∀ x ∈ s.tc, ¬(x.isRt = true ∧ x.key.bp = Texd.tbp0 texd ∧ x.key.psm = f)) →
    s.tc = l ++ e :: r → (∀ x ∈ l, ¬(x.isRt = false ∧ x.key = e.key)) →
    e.key = fetchKey f texd alphad clampd s.clut32 → e.content = .bitmap rows →
    ((∀ x y, u.has x y = true → decoded x y → blockAddr f x y bp bw < 16384) →
      ∃ rows', rowsFill rows' u ∧
        (∀ x y, u.has x y = true →
          (decoded x y → texelAt rows' (x - u.left) (y - u.top) = readTexel s.mem s.clut32 alphad f bp bw x y) ∧
          (¬decoded x y →
            texelAt rows' (x - u.left) (y - u.top) = texelAt rows (x - e.valid.left) (y - e.valid.top))) ∧
        exec (.tcfetch texd alphad clampd) s = .next
          { s with tc := l ++ { e with content := .bitmap rows', valid := u, dirty := [], age := 0 } :: r,
                   status := 0x0000, result := .texture (4 * 2 ^ (Texd.tw texd).toNat) rows' u }) ∧
    ((∃ x y, u.has x y = true ∧ decoded x y ∧ 16384 ≤ blockAddr f x y bp bw) →
      exec (.tcfetch texd alphad clampd) s = .next { s with status := 0x0104, result := .none })

/-- 44_texture_cache.md R349: where a render target has the requested base pointer and format, `TCFETCH` leaves what
`TCALIAS` of that target and that descriptor leaves, and also hands back and clears the stale part of the target. -/
def Obligations.TcfetchTakesTheTargetPath : Prop :=
  ∀ (texd alphad clampd keyClampd : Desc) (s : State) (f : Format) (l r : List Entry) (e : Entry),
    formatOf (Texd.psm texd) = some f → Texd.tbw texd ≠ 0 → (Texd.tw texd).toNat ≤ 10 → (Texd.th texd).toNat ≤ 10 →
    ((fmt f).pal ≠ 0 → Texd.cpsm texd ∈ [0x0, 0x2, 0xA]) →
    s.tc = l ++ e :: r → (∀ x ∈ l, ¬(x.isRt = true ∧ x.key.bp = Texd.tbp0 texd ∧ x.key.psm = f)) →
    e.isRt = true → e.key.bp = Texd.tbp0 texd → e.key.psm = f →
    ∃ t e' h, exec (.tcalias texd keyClampd texd) s = .next t ∧ t.status = 0x0000 ∧ t.result = .surface h ∧
      t.tc = l ++ e' :: r ∧ e'.age = 0 ∧
      exec (.tcfetch texd alphad clampd) s = .next
        { t with tc := l ++ { e' with dirty := [] } :: r, result := .renderTarget h (dirtyQuery e) }

/-- 44_texture_cache.md R344, R345, R354: `TCINVAL` appends one record to every entry that shares a bit with a written
pixel inside the arena, the written rectangle or, under another base pointer or buffer width, the whole entry; a render
target loses its sub-surfaces; every other entry, and all else, stays. -/
def Obligations.TcinvalRecordsTheWrite : Prop :=
  ∀ (bp : BitVec 14) (bw psm : BitVec 6) (rect : RectArg) (s : State) (g : Format),
    let r : Rect := ⟨rect.left.toNat, rect.top.toNat, rect.right.toNat, rect.bottom.toNat⟩
    formatOf psm = some g → bw ≠ 0 → r.left < r.right → r.top < r.bottom → r.right ≤ 2048 → r.bottom ≤ 2048 →
    ∃ tc', exec (.tcinval bp bw psm rect) s = .next { s with tc := tc', status := 0x0000, result := .none } ∧
      tc'.length = s.tc.length ∧
      ∀ (k : Nat) (e : Entry), s.tc[k]? = some e →
        let shared := ∃ x y x' y' n, r.has x y = true ∧ blockAddr g x y bp.toNat bw.toNat < 16384 ∧
          e.area.has x' y' = true ∧
          (footBit g x y bp.toNat bw.toNat ≤ n ∧ n < footBit g x y bp.toNat bw.toNat + rawBits g) ∧
          footBit e.key.psm x' y' e.key.bp.toNat e.key.bw.toNat ≤ n ∧
          n < footBit e.key.psm x' y' e.key.bp.toNat e.key.bw.toNat + rawBits e.key.psm
        (shared → tc'[k]? = some { e with
          dirty := e.dirty ++ [if bp = e.key.bp ∧ bw = e.key.bw then ⟨r, g⟩ else ⟨⟨0, 0, e.width, e.height⟩, e.key.psm⟩]
          subs := if e.isRt then [] else e.subs }) ∧
        (¬shared → tc'[k]? = some e)

/-- Cache coherency (44_texture_cache.md R346): after a `TCINVAL` and a `TCFETCH` of a cached texture, every valid texel
that shares a bit with a written pixel holds what GSMEM holds now; every valid texel holds that or what it held; and a
valid texel outside the dirty query holds what it held. -/
def Obligations.CacheCoherency : Prop :=
  ∀ (texd alphad clampd : Desc) (bp : BitVec 14) (bw psm : BitVec 6) (rect : RectArg) (s t u : State) (e : Entry)
    (f g : Format) (pitch' : Nat) (rows' : Pixels) (valid' : Rect),
    let r : Rect := ⟨rect.left.toNat, rect.top.toNat, rect.right.toNat, rect.bottom.toNat⟩
    formatOf (Texd.psm texd) = some f → formatOf psm = some g →
    (∀ x ∈ s.tc, ¬(x.isRt = true ∧ x.key.bp = Texd.tbp0 texd ∧ x.key.psm = f)) →
    s.tc.find? (isTexture (fetchKey f texd alphad clampd s.clut32)) = some e → e.ok →
    exec (.tcinval bp bw psm rect) s = .next t → t.status = 0x0000 →
    exec (.tcfetch texd alphad clampd) t = .next u → u.result = .texture pitch' rows' valid' →
    ∀ x y, e.valid.has x y = true →
      let now := readTexel s.mem s.clut32 alphad f (Texd.tbp0 texd).toNat (Texd.tbw texd).toNat x y
      let texel := texelAt rows' (x - valid'.left) (y - valid'.top)
      ((∃ wx wy n, r.has wx wy = true ∧ blockAddr g wx wy bp.toNat bw.toNat < 16384 ∧
          (footBit g wx wy bp.toNat bw.toNat ≤ n ∧ n < footBit g wx wy bp.toNat bw.toNat + rawBits g) ∧
          footBit f x y e.key.bp.toNat e.key.bw.toNat ≤ n ∧
          n < footBit f x y e.key.bp.toNat e.key.bw.toNat + rawBits f) → texel = now) ∧
      (texel = now ∨ texel = e.texel x y) ∧
      ((∀ e' ∈ t.tc, e'.isRt = false → e'.key = e.key → ∀ d, dirtyQuery e' = some d → d.has x y = false) →
        texel = e.texel x y)

/-- 44_texture_cache.md R340: the dirty query is empty exactly when no texel of the entry shares a bit with a recorded
write; else it is a rectangle of the texture, on the block grid of the entry's format where the texture does not cut it,
that holds every such texel and whose every side is within a block of one. -/
def Obligations.DirtyQueryIsTheBlockBox : Prop :=
  ∀ e : Entry,
    let meets := fun (x y : Nat) => e.area.has x y = true ∧ ∃ d ∈ e.dirty, ∃ wx wy n, d.rect.has wx wy = true ∧
      (footBit d.psm wx wy e.key.bp.toNat e.key.bw.toNat ≤ n ∧
        n < footBit d.psm wx wy e.key.bp.toNat e.key.bw.toNat + rawBits d.psm) ∧
      footBit e.key.psm x y e.key.bp.toNat e.key.bw.toNat ≤ n ∧
      n < footBit e.key.psm x y e.key.bp.toNat e.key.bw.toNat + rawBits e.key.psm
    let bkw := (fmt e.key.psm).bkw
    let bkh := (fmt e.key.psm).bkh
    (dirtyQuery e = none ↔ ∀ x y, ¬meets x y) ∧
    ∀ d, dirtyQuery e = some d →
      (∀ x y, meets x y → d.has x y = true) ∧ d.right ≤ e.width ∧ d.bottom ≤ e.height ∧
      d.left % bkw = 0 ∧ d.top % bkh = 0 ∧ (d.right % bkw = 0 ∨ d.right = e.width) ∧
      (d.bottom % bkh = 0 ∨ d.bottom = e.height) ∧
      (∃ x y, meets x y ∧ x < d.left + bkw) ∧ (∃ x y, meets x y ∧ y < d.top + bkh) ∧
      (∃ x y, meets x y ∧ d.right ≤ x + bkw) ∧ ∃ x y, meets x y ∧ d.bottom ≤ y + bkh

/-- 44_texture_cache.md R350: `TCALIAS` answers with the target's own surface, with a sub-surface of the requested shape,
or with a new one it appends, under a handle that no entry holds (log entry 7) and whose contents are told as a surface
(log entry 9); the target is recently used. -/
def Obligations.TcaliasFindsOrMakesASurface : Prop :=
  ∀ (key keyClampd texd : Desc) (s : State) (f g : Format) (l r : List Entry) (e : Entry) (h : Nat),
    let rbw := Texd.tbw texd
    let rw := 2 ^ (Texd.tw texd).toNat
    let rh := 2 ^ (Texd.th texd).toNat
    let own := rbw = e.key.bw ∧ rw = e.width ∧ rh = e.height
    let fits := fun u : SubSurface => u.bw = rbw ∧ u.w = rw ∧ u.h = rh
    formatOf (Texd.psm key) = some f → formatOf (Texd.psm texd) = some g → rbw ≠ 0 → (Texd.tw texd).toNat ≤ 10 →
    (Texd.th texd).toNat ≤ 10 →
    s.tc = l ++ e :: r → (∀ x ∈ l, ¬(x.isRt = true ∧ x.key.bp = Texd.tbp0 key ∧ x.key.psm = f)) →
    e.content = .surface h → e.key.bp = Texd.tbp0 key → e.key.psm = f →
    (own → exec (.tcalias key keyClampd texd) s = .next
      { s with tc := l ++ { e with age := 0 } :: r, status := 0x0000, result := .surface h }) ∧
    (¬own → ∀ sl u sr, e.subs = sl ++ u :: sr → (∀ x ∈ sl, ¬fits x) → fits u →
      exec (.tcalias key keyClampd texd) s = .next
        { s with tc := l ++ { e with age := 0 } :: r, status := 0x0000, result := .surface u.surface }) ∧
    (¬own → (∀ x ∈ e.subs, ¬fits x) →
      ∃ (fresh : Nat) (contents : Pixels),
        (∀ x ∈ s.tc, x.content ≠ .surface fresh ∧ ∀ u ∈ x.subs, u.surface ≠ fresh) ∧
        rowsFill contents ⟨0, 0, rw, rh⟩ ∧
        exec (.tcalias key keyClampd texd) s = .next
          { s with
            tc := l ++ { e with age := 0, subs := e.subs ++ [⟨rbw, rw, rh, fresh⟩] } :: r
            surf := (fresh, contents) :: s.surf.filter (fun q => q.1 ≠ fresh)
            free := s.free + 1
            status := 0x0000
            result := .surface fresh })

/-- The contents of a new sub-surface (44_texture_cache.md R351, R353): under another buffer width, texel by texel what the
one texel at the same address holds; under the same, the nearest texel when `RESAMPLE` is the default. The surface read is
the one the host has told (log entry 9). -/
def Obligations.NewSurfaceHoldsTheRemapOrResample : Prop :=
  ∀ (key keyClampd texd : Desc) (s t : State) (f : Format) (l r : List Entry) (e : Entry) (h fresh : Nat) (p q : Pixels),
    let rbw := Texd.tbw texd
    let rw := 2 ^ (Texd.tw texd).toNat
    let rh := 2 ^ (Texd.th texd).toNat
    let bp := e.key.bp.toNat
    formatOf (Texd.psm key) = some f →
    s.tc = l ++ e :: r → (∀ x ∈ l, ¬(x.isRt = true ∧ x.key.bp = Texd.tbp0 key ∧ x.key.psm = f)) →
    e.content = .surface h → e.key.bp = Texd.tbp0 key → e.key.psm = f →
    ¬(rbw = e.key.bw ∧ rw = e.width ∧ rh = e.height) → (∀ x ∈ e.subs, ¬(x.bw = rbw ∧ x.w = rw ∧ x.h = rh)) →
    s.surf.find? (fun x => x.1 == h) = some (h, p) → rowsFill p e.area →
    exec (.tcalias key keyClampd texd) s = .next t → t.result = .surface fresh →
    t.surf.find? (fun x => x.1 == fresh) = some (fresh, q) →
    ∀ x y, x < rw → y < rh →
      (rbw ≠ e.key.bw → ∀ x0 y0, e.area.has x0 y0 = true →
        (∀ x1 y1, e.area.has x1 y1 = true →
          (pixelAddr f x1 y1 bp e.key.bw.toNat = pixelAddr f x y bp rbw.toNat ↔ x1 = x0 ∧ y1 = y0)) →
        texelAt q x y = texelAt p x0 y0) ∧
      (rbw = e.key.bw → Config.resampleFiltered = false →
        texelAt q x y = texelAt p (x * e.width / rw) (y * e.height / rh))

/-- 44_texture_cache.md R356, R357: a frame boundary ages every entry and keeps some of them, in their order: of the
textures exactly those within the threshold; every render target within it; and of the render targets past it the oldest
go first, the earlier in the cache first among equals, while more than three targets are alive, and none goes when three or
fewer are. -/
def Obligations.TcageAgesAndEvicts : Prop :=
  ∀ s : State,
    let aged := s.tc.map fun e => { e with age := e.age + 1 }
    let targets := fun tc : List Entry => tc.countP Entry.isRt
    ∃ keep : Nat → Bool,
      let tc' := (aged.zipIdx.filter fun p => keep p.2).map Prod.fst
      exec .tcage s = .next { s with tc := tc', status := 0x0000, result := .none } ∧
      min 3 (targets aged) ≤ targets tc' ∧
      ∀ (i : Nat) (e : Entry), aged[i]? = some e →
        (e.isRt = false → (keep i = true ↔ e.age ≤ Config.ageMax)) ∧
        (e.isRt = true → e.age ≤ Config.ageMax → keep i = true) ∧
        (e.isRt = true → Config.ageMax < e.age → keep i = true → targets tc' ≤ 3) ∧
        (e.isRt = true → keep i = false → ∀ (j : Nat) (k : Entry), aged[j]? = some k → k.isRt = true → keep j = true →
          k.age < e.age ∨ k.age = e.age ∧ i < j)

/-- 44_texture_cache.md R358, R359: `TCDROP` removes exactly the entries of the kind that match the passed key fields, and
`TCPURGE` every entry; the rest of the cache keeps its order and nothing else changes. -/
def Obligations.DropAndPurgeRemoveEntries : Prop :=
  ∀ (key keyClampd : Desc) (isRt : Bool) (s : State) (f : Format), formatOf (Texd.psm key) = some f →
    exec .tcpurge s = .next { s with tc := [], status := 0x0000, result := .none } ∧
    ∃ tc', exec (.tcdrop key keyClampd isRt) s = .next { s with tc := tc', status := 0x0000, result := .none } ∧
      tc'.Sublist s.tc ∧
      ∀ e ∈ s.tc, e ∈ tc' ↔ ¬(e.isRt = isRt ∧ e.key.bp = Texd.tbp0 key ∧ e.key.psm = f ∧
        (isRt = false → e.key.bw = Texd.tbw key ∧ e.key.tw = Texd.tw key ∧ e.key.th = Texd.th key ∧
          e.key.wms = Clampd.wms keyClampd ∧ e.key.wmt = Clampd.wmt keyClampd))

/-- 44_texture_cache.md R348, R361: `TCRT` makes the one render target of its base pointer and format anew in its place,
or appends it, after the oldest texture has gone if the cache was full. -/
def Obligations.TcrtMakesARenderTarget : Prop :=
  ∀ (texd : Desc) (handle : Nat) (s : State) (f : Format),
    let target : Entry := ⟨⟨Texd.tbp0 texd, f, Texd.tbw texd, Texd.tw texd, Texd.th texd, 0, 0, .empty⟩, .surface handle,
      ⟨0, 0, 2 ^ (Texd.tw texd).toNat, 2 ^ (Texd.th texd).toNat⟩, [], 0, []⟩
    let same := fun e : Entry => e.isRt = true ∧ e.key.bp = Texd.tbp0 texd ∧ e.key.psm = f
    let leaves := fun tc' : List Entry =>
      exec (.tcrt texd handle) s = .next { s with tc := tc', status := 0x0000, result := .none }
    formatOf (Texd.psm texd) = some f → Texd.tbw texd ≠ 0 → (Texd.tw texd).toNat ≤ 10 → (Texd.th texd).toNat ≤ 10 →
    (∀ l e r, s.tc = l ++ e :: r → (∀ x ∈ l, ¬same x) → same e → leaves (l ++ target :: r)) ∧
    ((∀ e ∈ s.tc, ¬same e) → s.tc.length ≠ Config.maxEntries → leaves (s.tc ++ [target])) ∧
    ((∀ e ∈ s.tc, ¬same e) → s.tc.length = Config.maxEntries → ∀ l e r, s.tc = l ++ e :: r → e.isRt = false →
      (∀ x ∈ s.tc, x.isRt = false → x.age ≤ e.age) → (∀ x ∈ l, x.isRt = false → x.age < e.age) →
      leaves (l ++ r ++ [target]))

/-- 60_exceptions.md R403, 44_texture_cache.md R361: only `TCFETCH` and `TCRT` can end with STATUS = EXHAUSTED, and only
when the cache holds `MAX_ENTRIES` entries that are all render targets; and with such a cache, in which no target has the
base pointer and the format of the request, a `TCRT` and a `TCFETCH` with legal operands do end so, no target evicted and
nothing but STATUS changed, a `TCFETCH` of a texel outside the arena with OOB first (R339, 60_exceptions.md R407). -/
def Obligations.OnlyAFullCacheOfTargetsExhausts : Prop :=
  (∀ (i : Instr) (s t : State), exec i s = .next t → t.status = 0x0300 →
    ((∃ texd alphad clampd, i = .tcfetch texd alphad clampd) ∨ ∃ texd handle, i = .tcrt texd handle) ∧
    s.tc.length = Config.maxEntries ∧ ∀ e ∈ s.tc, e.isRt = true) ∧
  ∀ (texd alphad clampd : Desc) (handle : Nat) (s : State) (f : Format),
    let req := requiredRect clampd (2 ^ (Texd.tw texd).toNat) (2 ^ (Texd.th texd).toNat)
    let block := fun x y : Nat => blockAddr f x y (Texd.tbp0 texd).toNat (Texd.tbw texd).toNat
    let ends := fun (i : Instr) (code : BitVec 16) => exec i s = .next { s with status := code, result := .none }
    formatOf (Texd.psm texd) = some f → Texd.tbw texd ≠ 0 → (Texd.tw texd).toNat ≤ 10 → (Texd.th texd).toNat ≤ 10 →
    s.tc.length = Config.maxEntries → (∀ e ∈ s.tc, e.isRt = true) →
    (∀ e ∈ s.tc, ¬(e.key.bp = Texd.tbp0 texd ∧ e.key.psm = f)) →
    ends (.tcrt texd handle) 0x0300 ∧
    (((fmt f).pal ≠ 0 → Texd.cpsm texd ∈ [0x0, 0x2, 0xA]) →
      ((∀ x y, req.has x y = true → block x y < 16384) → ends (.tcfetch texd alphad clampd) 0x0300) ∧
      ((∃ x y, req.has x y = true ∧ 16384 ≤ block x y) → ends (.tcfetch texd alphad clampd) 0x0104))

/-! ### The views, save and restore -/

/-- 45_host_ops.md R380, R381, R382: a read through one of the three views gives the element, or the arena check fails. -/
def Obligations.ViewReads : Prop :=
  ∀ (idx : Word32) (s : State),
    let k := idx.toNat
    let gives := fun (i : Instr) (v : Result) => exec i s = .next { s with status := 0x0000, result := v }
    let oob := fun i : Instr => exec i s = .next { s with status := 0x0104, result := .none }
    (k < 4194304 → gives (.vmrd8 idx) (.byte (Memory.read s.mem k))) ∧ (4194304 ≤ k → oob (.vmrd8 idx)) ∧
    (k < 2097152 → gives (.vmrd16 idx)
      (.half ((Memory.read s.mem (2 * k)).setWidth 16 ||| (Memory.read s.mem (2 * k + 1)).setWidth 16 <<< 8))) ∧
    (2097152 ≤ k → oob (.vmrd16 idx)) ∧
    (k < 1048576 → gives (.vmrd32 idx)
      (.word ((Memory.read s.mem (4 * k)).setWidth 32 ||| (Memory.read s.mem (4 * k + 1)).setWidth 32 <<< 8 |||
        (Memory.read s.mem (4 * k + 2)).setWidth 32 <<< 16 ||| (Memory.read s.mem (4 * k + 3)).setWidth 32 <<< 24))) ∧
    (1048576 ≤ k → oob (.vmrd32 idx))

/-- 45_host_ops.md R383, R384, R385: a write through one of the three views stores the element's bytes, low byte first, and
changes no other byte; or the arena check fails and nothing is written. -/
def Obligations.ViewWrites : Prop :=
  ∀ (idx v : Word32) (s : State),
    let k := idx.toNat
    let byte := fun j : Nat => (v >>> (8 * j)).setWidth 8
    let stores := fun (i : Instr) (n : Nat) => ∃ mem',
      exec i s = .next { s with mem := mem', status := 0x0000, result := .none } ∧
      (∀ j < n, Memory.read mem' (n * k + j) = byte j) ∧
      ∀ a, a < n * k ∨ n * k + n ≤ a → Memory.read mem' a = Memory.read s.mem a
    let oob := fun i : Instr => exec i s = .next { s with status := 0x0104, result := .none }
    (k < 4194304 → stores (.vmwr8 idx v) 1) ∧ (4194304 ≤ k → oob (.vmwr8 idx v)) ∧
    (k < 2097152 → stores (.vmwr16 idx v) 2) ∧ (2097152 ≤ k → oob (.vmwr16 idx v)) ∧
    (k < 1048576 → stores (.vmwr32 idx v) 4) ∧ (1048576 ≤ k → oob (.vmwr32 idx v))

/-- 45_host_ops.md R386, a decision of the spec: `NOP` sets STATUS to OK and nothing else. -/
def Obligations.NopSetsStatusOnly : Prop :=
  ∀ s : State, exec .nop s = .next { s with status := 0x0000, result := .none }

/-- 45_host_ops.md R387, R388: the image of `SAVE` holds GSMEM byte for byte, the palette memory and the cursor, and
nothing changes but STATUS. -/
def Obligations.SaveReturnsTheImage : Prop :=
  ∀ s : State, ∃ image : List Byte,
    exec .save s = .next { s with status := 0x0000, result := .image image } ∧
    image.length = 4195333 ∧
    (∀ a < 4194304, image.getD a 0 = Memory.read s.mem a) ∧
    (∀ i (h : i < 512), image.getD (4194304 + 2 * i) 0 = s.clut[i].setWidth 8 ∧
      image.getD (4194304 + 2 * i + 1) 0 = (s.clut[i] >>> 8).setWidth 8) ∧
    image.getD 4195328 0 = (if s.cur.active then 1 else 0) ∧
    (let x := if s.cur.active then s.cur.x.toNat else 0
     let y := if s.cur.active then s.cur.y.toNat else 0
     image.getD 4195329 0 = BitVec.ofNat 8 x ∧ image.getD 4195330 0 = BitVec.ofNat 8 (x / 256) ∧
     image.getD 4195331 0 = BitVec.ofNat 8 y ∧ image.getD 4195332 0 = BitVec.ofNat 8 (y / 256))

/-- 45_host_ops.md R389: `RESTORE` of a legal image loads GSMEM, the palette memory and the cursor, empties the cache and
makes the next `CLUTWR` rebuild; `CLUT32` is then unspecified, a free value (log entry 6); any other image is refused and
changes nothing. -/
def Obligations.RestoreLoadsTheImage : Prop :=
  ∀ (image : List Byte) (s : State),
    let at16 := fun i : Nat => (image.getD i 0).toNat + 256 * (image.getD (i + 1) 0).toNat
    let a := (image.getD 4195328 0).toNat
    let x := at16 4195329
    let y := at16 4195331
    let bad := 1 < a ∨ 2048 ≤ x ∨ 2048 ≤ y ∨ a = 0 ∧ (x ≠ 0 ∨ y ≠ 0)
    (image.length ≠ 4195333 ∨ bad →
      exec (.restore image) s = .next { s with status := 0x0110, result := .none }) ∧
    (image.length = 4195333 → ¬bad →
      ∃ mem' clut' clut32', exec (.restore image) s = .next
          { s with
            mem := mem', clut := clut', clutSnap := none, clutDirty := true, clut32 := clut32'
            cur := ⟨BitVec.ofNat 11 x, BitVec.ofNat 11 y, decide (a = 1)⟩
            tc := [], status := 0x0000, result := .none, free := s.free + 1 } ∧
        (∀ b < 4194304, Memory.read mem' b = image.getD b 0) ∧
        ∀ i (h : i < 512), clut'[i] = BitVec.ofNat 16 (at16 (4194304 + 2 * i)))

/-- 45_host_ops.md R389, the laws: `RESTORE` of what `SAVE` gave leaves GSMEM, the palette memory and the cursor as they
were, in a state whose memory and cursor are as the core keeps them; `SAVE` after `RESTORE` of an image gives that image. -/
def Obligations.SaveAndRestoreAreInverse : Prop :=
  (∀ s : State, Memory.wf s.mem → s.cur.ok →
    ∃ t image u, exec .save s = .next t ∧ t.result = .image image ∧ exec (.restore image) t = .next u ∧
      u.status = 0x0000 ∧ u.mem = s.mem ∧ u.clut = s.clut ∧ u.cur = s.cur) ∧
  ∀ (image : List Byte) (s u : State), exec (.restore image) s = .next u → u.status = 0x0000 →
    ∃ t, exec .save u = .next t ∧ t.result = .image image

/-! ### The whole machine -/

/-- Every instruction and every step ends in a next state: there is no trap and no stop (60_exceptions.md R400, R411). -/
def Obligations.EveryRequestIsAnswered : Prop :=
  (∀ (i : Instr) (s : State), ∃ t, exec i s = .next t) ∧ ∀ s : State, ∃ t, step s = .next t

/-- 60_exceptions.md R406, all or nothing: an operation that ends with any class but OK has changed no state except STATUS
(and the model's result field, which then holds no result; log entry 3). -/
def Obligations.AllOrNothing : Prop :=
  ∀ (i : Instr) (s t : State), exec i s = .next t → t.status ≠ 0x0000 →
    t = { s with status := t.status, result := .none }

/-- Only these operations write these elements (10_state.md R22, 41_pixel_io.md R190, 42_color_clut.md R260, R266, R268,
43_swizzle_engine.md R290, R328, 45_host_ops.md R389, 44_texture_cache.md R344). -/
def Obligations.OnlyTheseWrite : Prop :=
  ∀ (i : Instr) (s t : State), exec i s = .next t →
    let restore := ∃ im, i = .restore im
    let swzin := ∃ f d r src, i = .swzinOf f d r src
    (t.cur = s.cur ∨ swzin ∨ restore) ∧
    (t.mem = s.mem ∨ swzin ∨ restore ∨ (∃ f x y bp bw v, i = .wrpixOf f x y bp bw v) ∨ (∃ d, i = .xfermm d) ∨
      ∃ idx v, i = .vmwr8 idx v ∨ i = .vmwr16 idx v ∨ i = .vmwr32 idx v) ∧
    (t.clut = s.clut ∧ t.clutSnap = s.clutSnap ∨ restore ∨ ∃ texd clutd, i = .clutwr texd clutd) ∧
    (t.clutDirty = s.clutDirty ∨ restore ∨ i = .clutinv ∨ ∃ texd clutd, i = .clutwr texd clutd) ∧
    (t.clut32 = s.clut32 ∨ restore ∨ ∃ texd alphad, i = .clutrd32 texd alphad) ∧
    (t.tc = s.tc ∨ restore ∨ i = .tcage ∨ i = .tcpurge ∨ (∃ a b c, i = .tcfetch a b c) ∨
      (∃ a b c d, i = .tcinval a b c d) ∨ (∃ a b c, i = .tcalias a b c) ∨ (∃ a b c, i = .tcdrop a b c) ∨
      ∃ a b, i = .tcrt a b) ∧
    t.requests = s.requests

/-- Every step keeps the invariant: GSMEM in canonical form inside the arena, the cursor of no transfer zero
(10_state.md R22), the cache of at most `MAX_ENTRIES` well-formed entries told apart (10_state.md R35 to R38,
44_texture_cache.md R332, R347, R348), STATUS one of the codes of 60_exceptions.md R404. -/
def Obligations.EveryStepKeepsTheInvariant : Prop := ∀ s t : State, s.Inv → step s = .next t → t.Inv

/-- The invariant holds right after reset. The contents of GSMEM there are the model's choice (log entry 4). -/
def Obligations.ResetMeetsTheInvariant : Prop := State.reset.Inv

/-- The values after reset that 10_state.md R50 states: no snapshot, the dirty flag up, the cursor inactive, the cache
empty, STATUS OK. (GSMEM, CLUT and CLUT32 are unspecified there and nothing is said of them here.) -/
def Obligations.ResetValues : Prop :=
  State.reset.clutSnap = none ∧ State.reset.clutDirty = true ∧ State.reset.cur = ⟨0, 0, false⟩ ∧ State.reset.tc = [] ∧
    State.reset.status = 0x0000
end

