-- ==== Sys2Proof/Laws/Config.lean ====
section
/-! SUPPORT. The parameters of 00_scope.md R10: the values that follow from the defaults, and how the parameters and the
per-format table hang together. -/

namespace Sys2Proof.Config

theorem pageBytes_eq : pageBytes = 8192 := rfl

theorem nblocks_eq : nblocks = 16384 := rfl

theorem coordLimit_eq : coordLimit = 2048 := rfl

/-- Four columns to a block (40_address_translator.md R131). -/
theorem columns_of_block : 4 * columnBytes = blockBytes := rfl

/-- Every base pointer names a block of GSMEM, and every block has one (30_encoding.md R100). -/
theorem basePtr_covers : 2 ^ bpBits * bpUnit = vmSize := rfl

/-- `CLUT` is two banks of as many entries as `CLUT32` (10_state.md R28, R31). -/
theorem clutBank_eq : clutBank = clut32Entries := rfl

end Sys2Proof.Config

namespace Sys2Proof.Machine

/-- The units of a block fill its bytes (10_state.md R26). -/
theorem unitsPerBlock_mul_bits (f : Format) : unitsPerBlock f * (fmt f).cls.bits = 8 * Config.blockBytes := by
  cases f <;> rfl

/-- The units of a page fill its bytes (10_state.md R26). -/
theorem page_mul_bits (f : Format) : (fmt f).pw * (fmt f).ph * (fmt f).cls.bits = 8 * Config.pageBytes := by
  cases f <;> rfl

/-- The rows of a column fill its bytes: a column is a quarter of a block (40_address_translator.md R131). -/
theorem column_mul_bits (f : Format) :
    (fmt f).bkw * ((fmt f).bkh / 4) * (fmt f).cls.bits = 8 * Config.columnBytes := by
  cases f <;> rfl

end Sys2Proof.Machine
end

