-- ==== Sys2Proof/Laws/Decode.lean ====
section
/-! SUPPORT. The header's three fields read back from what the encoder puts together, and the two code tables read in both
directions (30_encoding.md R90, R93, R95). -/

namespace Sys2Proof

@[simp] theorem headerOp_header (op : BitVec 8) (psm : BitVec 6) : headerOp (header op psm) = op := by
  refine BitVec.eq_of_getLsbD_eq fun i hi => ?_
  have : (header op psm).getLsbD (8 + i) = op.getLsbD i := by
    show BitVec.getLsbD (w := 8 + 2 + 6) (op ++ (0 : BitVec 2) ++ psm) (8 + i) = _
    rw [BitVec.getLsbD_append, BitVec.getLsbD_append]
    simp [hi, show ¬(8 + i < 6) by omega, show ¬(8 + i - 6 < 2) by omega, show 8 + i - 6 - 2 = i by omega]
  show ((BitVec.extractLsb' 8 8 (header op psm)).getLsbD i) = _
  simp [hi, this]

@[simp] theorem headerPsm_header (op : BitVec 8) (psm : BitVec 6) : headerPsm (header op psm) = psm := by
  refine BitVec.eq_of_getLsbD_eq fun i hi => ?_
  have : (header op psm).getLsbD i = psm.getLsbD i := by
    show BitVec.getLsbD (w := 8 + 2 + 6) (op ++ (0 : BitVec 2) ++ psm) i = _
    rw [BitVec.getLsbD_append]
    simp [hi]
  show ((BitVec.extractLsb' 0 6 (header op psm)).getLsbD i) = _
  simp [hi, this]

@[simp] theorem headerZero_header (op : BitVec 8) (psm : BitVec 6) : headerZero (header op psm) = 0 := by
  refine BitVec.eq_of_getLsbD_eq fun i hi => ?_
  have : (header op psm).getLsbD (6 + i) = false := by
    show BitVec.getLsbD (w := 8 + 2 + 6) (op ++ (0 : BitVec 2) ++ psm) (6 + i) = _
    rw [BitVec.getLsbD_append, BitVec.getLsbD_append]
    simp [hi, show 6 + i - 6 = i by omega]
  show ((BitVec.extractLsb' 6 2 (header op psm)).getLsbD i) = _
  simp [hi, this]

@[simp] theorem formatOf_code (f : Format) : formatOf f.code = some f := by cases f <;> rfl

@[simp] theorem formatOpOf_code (o : FormatOp) : formatOpOf o.code = some o := by cases o <;> rfl

theorem code_of_formatOf : ∀ (psm : BitVec 6) (f : Format), formatOf psm = some f → f.code = psm := by decide +kernel

theorem code_of_formatOpOf : ∀ (op : BitVec 8) (o : FormatOp), formatOpOf op = some o → o.code = op := by
  have : ∀ (op : BitVec 8), ∀ o ∈ formatOpOf op, o.code = op := by decide +kernel
  exact this

end Sys2Proof
end

