-- ==== Sys2Proof/Laws/State.lean ====
section
/-! SUPPORT. One lemma per field per named update of the state, and how the ways of ending read. -/

namespace Sys2Proof.Machine

@[simp] theorem State.failed_mem (s : State) (e : Ending) : (s.failed e).mem = s.mem := rfl
@[simp] theorem State.failed_clut (s : State) (e : Ending) : (s.failed e).clut = s.clut := rfl
@[simp] theorem State.failed_clutSnap (s : State) (e : Ending) : (s.failed e).clutSnap = s.clutSnap := rfl
@[simp] theorem State.failed_clutDirty (s : State) (e : Ending) : (s.failed e).clutDirty = s.clutDirty := rfl
@[simp] theorem State.failed_clut32 (s : State) (e : Ending) : (s.failed e).clut32 = s.clut32 := rfl
@[simp] theorem State.failed_cur (s : State) (e : Ending) : (s.failed e).cur = s.cur := rfl
@[simp] theorem State.failed_tc (s : State) (e : Ending) : (s.failed e).tc = s.tc := rfl
@[simp] theorem State.failed_status (s : State) (e : Ending) : (s.failed e).status = e.status := rfl
@[simp] theorem State.failed_requests (s : State) (e : Ending) : (s.failed e).requests = s.requests := rfl
@[simp] theorem State.failed_result (s : State) (e : Ending) : (s.failed e).result = .none := rfl
@[simp] theorem State.failed_surf (s : State) (e : Ending) : (s.failed e).surf = s.surf := rfl
@[simp] theorem State.failed_free (s : State) (e : Ending) : (s.failed e).free = s.free := rfl

@[simp] theorem State.succeeded_mem (s : State) (r : Result) : (s.succeeded r).mem = s.mem := rfl
@[simp] theorem State.succeeded_clut (s : State) (r : Result) : (s.succeeded r).clut = s.clut := rfl
@[simp] theorem State.succeeded_clutSnap (s : State) (r : Result) : (s.succeeded r).clutSnap = s.clutSnap := rfl
@[simp] theorem State.succeeded_clutDirty (s : State) (r : Result) : (s.succeeded r).clutDirty = s.clutDirty := rfl
@[simp] theorem State.succeeded_clut32 (s : State) (r : Result) : (s.succeeded r).clut32 = s.clut32 := rfl
@[simp] theorem State.succeeded_cur (s : State) (r : Result) : (s.succeeded r).cur = s.cur := rfl
@[simp] theorem State.succeeded_tc (s : State) (r : Result) : (s.succeeded r).tc = s.tc := rfl
@[simp] theorem State.succeeded_status (s : State) (r : Result) : (s.succeeded r).status = 0 := rfl
@[simp] theorem State.succeeded_requests (s : State) (r : Result) : (s.succeeded r).requests = s.requests := rfl
@[simp] theorem State.succeeded_result (s : State) (r : Result) : (s.succeeded r).result = r := rfl
@[simp] theorem State.succeeded_surf (s : State) (r : Result) : (s.succeeded r).surf = s.surf := rfl
@[simp] theorem State.succeeded_free (s : State) (r : Result) : (s.succeeded r).free = s.free := rfl

@[simp] theorem State.take_mem (s : State) (r : Request) (rest : List Request) : (s.take r rest).mem = s.mem := rfl
@[simp] theorem State.take_clut (s : State) (r : Request) (rest : List Request) : (s.take r rest).clut = s.clut := rfl
@[simp] theorem State.take_clutSnap (s : State) (r : Request) (rest : List Request) :
    (s.take r rest).clutSnap = s.clutSnap := rfl
@[simp] theorem State.take_clutDirty (s : State) (r : Request) (rest : List Request) :
    (s.take r rest).clutDirty = s.clutDirty := rfl
@[simp] theorem State.take_clut32 (s : State) (r : Request) (rest : List Request) :
    (s.take r rest).clut32 = s.clut32 := rfl
@[simp] theorem State.take_cur (s : State) (r : Request) (rest : List Request) : (s.take r rest).cur = s.cur := rfl
@[simp] theorem State.take_tc (s : State) (r : Request) (rest : List Request) : (s.take r rest).tc = s.tc := rfl
@[simp] theorem State.take_status (s : State) (r : Request) (rest : List Request) :
    (s.take r rest).status = s.status := rfl
@[simp] theorem State.take_requests (s : State) (r : Request) (rest : List Request) :
    (s.take r rest).requests = rest := rfl
@[simp] theorem State.take_result (s : State) (r : Request) (rest : List Request) :
    (s.take r rest).result = s.result := rfl
@[simp] theorem State.take_surf (s : State) (r : Request) (rest : List Request) :
    (s.take r rest).surf = r.surf.foldl surfSet s.surf := rfl
@[simp] theorem State.take_free (s : State) (r : Request) (rest : List Request) : (s.take r rest).free = s.free := rfl

@[simp] theorem State.withFetchWord_mem (s : State) (nbits w : Nat) : (s.withFetchWord nbits w).mem = s.mem := rfl
@[simp] theorem State.withFetchWord_clut (s : State) (nbits w : Nat) : (s.withFetchWord nbits w).clut = s.clut := rfl
@[simp] theorem State.withFetchWord_clutSnap (s : State) (nbits w : Nat) :
    (s.withFetchWord nbits w).clutSnap = s.clutSnap := rfl
@[simp] theorem State.withFetchWord_clutDirty (s : State) (nbits w : Nat) :
    (s.withFetchWord nbits w).clutDirty = s.clutDirty := rfl
@[simp] theorem State.withFetchWord_clut32 (s : State) (nbits w : Nat) :
    (s.withFetchWord nbits w).clut32 = s.clut32 := rfl
@[simp] theorem State.withFetchWord_cur (s : State) (nbits w : Nat) : (s.withFetchWord nbits w).cur = s.cur := rfl
@[simp] theorem State.withFetchWord_tc (s : State) (nbits w : Nat) : (s.withFetchWord nbits w).tc = s.tc := rfl
@[simp] theorem State.withFetchWord_status (s : State) (nbits w : Nat) :
    (s.withFetchWord nbits w).status = s.status := rfl
@[simp] theorem State.withFetchWord_requests (s : State) (nbits w : Nat) :
    (s.withFetchWord nbits w).requests = ⟨BitVec.ofNat 16 w, .zero, []⟩ :: s.requests := rfl
@[simp] theorem State.withFetchWord_result (s : State) (nbits w : Nat) :
    (s.withFetchWord nbits w).result = s.result := rfl
@[simp] theorem State.withFetchWord_surf (s : State) (nbits w : Nat) : (s.withFetchWord nbits w).surf = s.surf := rfl
@[simp] theorem State.withFetchWord_free (s : State) (nbits w : Nat) : (s.withFetchWord nbits w).free = s.free := rfl

@[simp] theorem clutRebuilt_mem (s : State) (n : Nat) (cpf : Format) (texd clutd : Desc) :
    (clutRebuilt s n cpf texd clutd).mem = s.mem := by simp only [clutRebuilt]
@[simp] theorem clutRebuilt_clut (s : State) (n : Nat) (cpf : Format) (texd clutd : Desc) :
    (clutRebuilt s n cpf texd clutd).clut = clutStore s.clut (wideEntry cpf) (clutBase (Texd.csa texd)) n (srcEntry s.mem cpf n texd clutd) := by
  simp only [clutRebuilt]
@[simp] theorem clutRebuilt_clutSnap (s : State) (n : Nat) (cpf : Format) (texd clutd : Desc) :
    (clutRebuilt s n cpf texd clutd).clutSnap = some (clutSig n texd clutd) := by simp only [clutRebuilt]
@[simp] theorem clutRebuilt_clutDirty (s : State) (n : Nat) (cpf : Format) (texd clutd : Desc) :
    (clutRebuilt s n cpf texd clutd).clutDirty = false := by simp only [clutRebuilt]
@[simp] theorem clutRebuilt_clut32 (s : State) (n : Nat) (cpf : Format) (texd clutd : Desc) :
    (clutRebuilt s n cpf texd clutd).clut32 = s.clut32 := by simp only [clutRebuilt]
@[simp] theorem clutRebuilt_cur (s : State) (n : Nat) (cpf : Format) (texd clutd : Desc) :
    (clutRebuilt s n cpf texd clutd).cur = s.cur := by simp only [clutRebuilt]
@[simp] theorem clutRebuilt_tc (s : State) (n : Nat) (cpf : Format) (texd clutd : Desc) :
    (clutRebuilt s n cpf texd clutd).tc = s.tc := by simp only [clutRebuilt]
@[simp] theorem clutRebuilt_status (s : State) (n : Nat) (cpf : Format) (texd clutd : Desc) :
    (clutRebuilt s n cpf texd clutd).status = s.status := by simp only [clutRebuilt]
@[simp] theorem clutRebuilt_requests (s : State) (n : Nat) (cpf : Format) (texd clutd : Desc) :
    (clutRebuilt s n cpf texd clutd).requests = s.requests := by simp only [clutRebuilt]
@[simp] theorem clutRebuilt_result (s : State) (n : Nat) (cpf : Format) (texd clutd : Desc) :
    (clutRebuilt s n cpf texd clutd).result = s.result := by simp only [clutRebuilt]
@[simp] theorem clutRebuilt_surf (s : State) (n : Nat) (cpf : Format) (texd clutd : Desc) :
    (clutRebuilt s n cpf texd clutd).surf = s.surf := by simp only [clutRebuilt]
@[simp] theorem clutRebuilt_free (s : State) (n : Nat) (cpf : Format) (texd clutd : Desc) :
    (clutRebuilt s n cpf texd clutd).free = s.free := by simp only [clutRebuilt]

@[simp] theorem restored_mem (s : State) (image : List Byte) :
    (restored s image).mem = Memory.ofBytes (image.take Config.vmSize) := by simp only [restored]
@[simp] theorem restored_clut (s : State) (image : List Byte) :
    (restored s image).clut = Vector.ofFn fun i : Fin Config.clutEntries => imageHalf image (Config.vmSize + 2 * i.val) := by
  simp only [restored]
@[simp] theorem restored_clutSnap (s : State) (image : List Byte) :
    (restored s image).clutSnap = none := by simp only [restored]
@[simp] theorem restored_clutDirty (s : State) (image : List Byte) :
    (restored s image).clutDirty = true := by simp only [restored]
@[simp] theorem restored_clut32 (s : State) (image : List Byte) :
    (restored s image).clut32 = Vector.ofFn fun i : Fin Config.clut32Entries => Config.clut32Restored s.free i.val := by
  simp only [restored]
@[simp] theorem restored_cur (s : State) (image : List Byte) :
    (restored s image).cur = restoredCursor image := by simp only [restored]
@[simp] theorem restored_tc (s : State) (image : List Byte) : (restored s image).tc = [] := by simp only [restored]
@[simp] theorem restored_status (s : State) (image : List Byte) :
    (restored s image).status = s.status := by simp only [restored]
@[simp] theorem restored_requests (s : State) (image : List Byte) :
    (restored s image).requests = s.requests := by simp only [restored]
@[simp] theorem restored_result (s : State) (image : List Byte) :
    (restored s image).result = s.result := by simp only [restored]
@[simp] theorem restored_surf (s : State) (image : List Byte) :
    (restored s image).surf = s.surf := by simp only [restored]
@[simp] theorem restored_free (s : State) (image : List Byte) :
    (restored s image).free = s.free + 1 := by simp only [restored]

/-- A raised failure is a next state. -/
theorem State.raise_eq (s : State) (e : Ending) : s.raise e = .next (s.failed e) := rfl

/-- A success is a next state. -/
theorem State.answer_eq (s : State) (r : Result) : s.answer r = .next (s.succeeded r) := rfl

@[simp] theorem State.raise_next_iff (s t : State) (e : Ending) : s.raise e = .next t ↔ t = s.failed e := by
  rw [State.raise_eq]
  exact ⟨fun h => (Host.Outcome.next.inj h).symm, fun h => h ▸ rfl⟩

@[simp] theorem State.answer_next_iff (s t : State) (r : Result) : s.answer r = .next t ↔ t = s.succeeded r := by
  rw [State.answer_eq]
  exact ⟨fun h => (Host.Outcome.next.inj h).symm, fun h => h ▸ rfl⟩

/-- `firstFailure` finds nothing exactly when every check passes. -/
theorem firstFailure_eq_none (cs : List (Bool × Cause)) : firstFailure cs = none ↔ ∀ c ∈ cs, c.1 = false := by
  induction cs with
  | nil => simp [firstFailure]
  | cons c cs ih =>
    obtain ⟨bad, k⟩ := c
    cases bad <;> simp [firstFailure, ih]

/-- Checks made one list after the other. -/
theorem firstFailure_append (cs ds : List (Bool × Cause)) :
    firstFailure (cs ++ ds) = (firstFailure cs).or (firstFailure ds) := by
  induction cs with
  | nil => rfl
  | cons c cs ih =>
    obtain ⟨bad, k⟩ := c
    cases bad <;> simp [firstFailure, ih]

/-- All that a checked operation can do: raise a cause of its list, or go on with every check passed. -/
theorem State.check_cases {s : State} {cs : List (Bool × Cause)} {go a : Answer State} (h : s.check cs go = a) :
    (∃ c, firstFailure cs = some c ∧ a = .next (s.failed (.cv c))) ∨ ((∀ c ∈ cs, c.1 = false) ∧ a = go) := by
  unfold State.check at h
  split at h
  · rename_i c hc
    exact .inl ⟨c, hc, h.symm⟩
  · rename_i hc
    exact .inr ⟨(firstFailure_eq_none cs).1 hc, h.symm⟩

/-- Every check passes: the operation goes on. -/
theorem State.check_pass {s : State} {cs : List (Bool × Cause)} {go : Answer State} (h : ∀ c ∈ cs, c.1 = false) :
    s.check cs go = go := by
  unfold State.check
  rw [(firstFailure_eq_none cs).2 h]

/-- The first check that fails is raised. -/
theorem State.check_fail {s : State} {cs : List (Bool × Cause)} {go : Answer State} {c : Cause}
    (h : firstFailure cs = some c) : s.check cs go = .next (s.failed (.cv c)) := by
  unfold State.check
  rw [h]
  rfl

end Sys2Proof.Machine
end

