-- ==== Sys2Proof/Laws/Exec.lean ====
section
/-! SUPPORT. The thirteen formats of one operation as one function of the format, and a case split over all instructions
that takes the formats of one operation together. -/

namespace Sys2Proof.Machine

@[simp] theorem exec_paddrOf (f : Format) (x y : CoordArg) (bp : BasePtr) (bw : BufWidth) (s : State) :
    exec (.paddrOf f x y bp bw) s = paddr f x y bp bw s := by cases f <;> rfl

@[simp] theorem exec_baddrOf (f : Format) (x y : CoordArg) (bp : BasePtr) (bw : BufWidth) (s : State) :
    exec (.baddrOf f x y bp bw) s = baddr f x y bp bw s := by cases f <;> rfl

@[simp] theorem exec_pgaddrOf (f : Format) (x y : CoordArg) (bp : BasePtr) (bw : BufWidth) (s : State) :
    exec (.pgaddrOf f x y bp bw) s = pgaddr f x y bp bw s := by cases f <;> rfl

@[simp] theorem exec_rdpixOf (f : Format) (x y : CoordArg) (bp : BasePtr) (bw : BufWidth) (s : State) :
    exec (.rdpixOf f x y bp bw) s = rdpix f x y bp bw s := by cases f <;> rfl

@[simp] theorem exec_wrpixOf (f : Format) (x y : CoordArg) (bp : BasePtr) (bw : BufWidth) (v : Word32) (s : State) :
    exec (.wrpixOf f x y bp bw v) s = wrpix f x y bp bw v s := by cases f <;> rfl

@[simp] theorem exec_rdtexOf (f : Format) (x y : CoordArg) (bp : BasePtr) (bw : BufWidth) (alphad : Desc) (s : State) :
    exec (.rdtexOf f x y bp bw alphad) s = rdtex f x y bp bw alphad s := by cases f <;> rfl

@[simp] theorem exec_swzinOf (f : Format) (xferd : Xferd) (resume : Bool) (src : List Byte) (s : State) :
    exec (.swzinOf f xferd resume src) s = swzin f xferd resume src s := by cases f <;> rfl

@[simp] theorem exec_unswzOf (f : Format) (rect : RectArg) (bp : BasePtr) (bw : BufWidth) (mode : BitVec 2)
    (alphad : Desc) (pitch : Word32) (s : State) :
    exec (.unswzOf f rect bp bw mode alphad pitch) s = unswz f rect bp bw mode alphad pitch s := by cases f <;> rfl

/-- What holds of every operation without a format and, format by format, of the eight others holds of every instruction. -/
theorem instr_cases {P : Instr → Prop}
    (nop : P .nop) (vmrd8 : ∀ idx, P (.vmrd8 idx)) (vmrd16 : ∀ idx, P (.vmrd16 idx)) (vmrd32 : ∀ idx, P (.vmrd32 idx))
    (vmwr8 : ∀ idx v, P (.vmwr8 idx v)) (vmwr16 : ∀ idx v, P (.vmwr16 idx v)) (vmwr32 : ∀ idx v, P (.vmwr32 idx v))
    (exp16 : ∀ v a, P (.exp16 v a)) (exp24 : ∀ v a, P (.exp24 v a))
    (clutwr : ∀ t c, P (.clutwr t c)) (clutrd32 : ∀ t a, P (.clutrd32 t a)) (clutinv : P .clutinv)
    (xfermm : ∀ x, P (.xfermm x))
    (tcfetch : ∀ t a c, P (.tcfetch t a c)) (tcinval : ∀ bp bw psm r, P (.tcinval bp bw psm r))
    (tcalias : ∀ k kc t, P (.tcalias k kc t)) (tcage : P .tcage) (tcdrop : ∀ k kc r, P (.tcdrop k kc r))
    (tcpurge : P .tcpurge) (tcrt : ∀ t h, P (.tcrt t h)) (save : P .save) (restore : ∀ im, P (.restore im))
    (paddr : ∀ f x y bp bw, P (.paddrOf f x y bp bw)) (baddr : ∀ f x y bp bw, P (.baddrOf f x y bp bw))
    (pgaddr : ∀ f x y bp bw, P (.pgaddrOf f x y bp bw)) (rdpix : ∀ f x y bp bw, P (.rdpixOf f x y bp bw))
    (wrpix : ∀ f x y bp bw v, P (.wrpixOf f x y bp bw v)) (rdtex : ∀ f x y bp bw a, P (.rdtexOf f x y bp bw a))
    (swzin : ∀ f x r src, P (.swzinOf f x r src)) (unswz : ∀ f r bp bw m a p, P (.unswzOf f r bp bw m a p)) :
    ∀ i, P i := by
  intro i
  cases i with
  | nop => exact nop
  | vmrd8 idx => exact vmrd8 idx
  | vmrd16 idx => exact vmrd16 idx
  | vmrd32 idx => exact vmrd32 idx
  | vmwr8 idx v => exact vmwr8 idx v
  | vmwr16 idx v => exact vmwr16 idx v
  | vmwr32 idx v => exact vmwr32 idx v
  | exp16 v alphad => exact exp16 v alphad
  | exp24 v alphad => exact exp24 v alphad
  | clutwr texd clutd => exact clutwr texd clutd
  | clutrd32 texd alphad => exact clutrd32 texd alphad
  | clutinv => exact clutinv
  | xfermm xferd => exact xfermm xferd
  | tcfetch texd alphad clampd => exact tcfetch texd alphad clampd
  | tcinval bp bw psm rect => exact tcinval bp bw psm rect
  | tcalias keyTexd keyClampd texd => exact tcalias keyTexd keyClampd texd
  | tcage => exact tcage
  | tcdrop keyTexd keyClampd isRt => exact tcdrop keyTexd keyClampd isRt
  | tcpurge => exact tcpurge
  | tcrt texd handle => exact tcrt texd handle
  | save => exact save
  | restore image => exact restore image
  | paddrCt32 x y bp bw => exact paddr .ct32 x y bp bw
  | paddrCt24 x y bp bw => exact paddr .ct24 x y bp bw
  | paddrCt16 x y bp bw => exact paddr .ct16 x y bp bw
  | paddrCt16s x y bp bw => exact paddr .ct16s x y bp bw
  | paddrT8 x y bp bw => exact paddr .t8 x y bp bw
  | paddrT4 x y bp bw => exact paddr .t4 x y bp bw
  | paddrT8h x y bp bw => exact paddr .t8h x y bp bw
  | paddrT4hl x y bp bw => exact paddr .t4hl x y bp bw
  | paddrT4hh x y bp bw => exact paddr .t4hh x y bp bw
  | paddrZ32 x y bp bw => exact paddr .z32 x y bp bw
  | paddrZ24 x y bp bw => exact paddr .z24 x y bp bw
  | paddrZ16 x y bp bw => exact paddr .z16 x y bp bw
  | paddrZ16s x y bp bw => exact paddr .z16s x y bp bw
  | baddrCt32 x y bp bw => exact baddr .ct32 x y bp bw
  | baddrCt24 x y bp bw => exact baddr .ct24 x y bp bw
  | baddrCt16 x y bp bw => exact baddr .ct16 x y bp bw
  | baddrCt16s x y bp bw => exact baddr .ct16s x y bp bw
  | baddrT8 x y bp bw => exact baddr .t8 x y bp bw
  | baddrT4 x y bp bw => exact baddr .t4 x y bp bw
  | baddrT8h x y bp bw => exact baddr .t8h x y bp bw
  | baddrT4hl x y bp bw => exact baddr .t4hl x y bp bw
  | baddrT4hh x y bp bw => exact baddr .t4hh x y bp bw
  | baddrZ32 x y bp bw => exact baddr .z32 x y bp bw
  | baddrZ24 x y bp bw => exact baddr .z24 x y bp bw
  | baddrZ16 x y bp bw => exact baddr .z16 x y bp bw
  | baddrZ16s x y bp bw => exact baddr .z16s x y bp bw
  | pgaddrCt32 x y bp bw => exact pgaddr .ct32 x y bp bw
  | pgaddrCt24 x y bp bw => exact pgaddr .ct24 x y bp bw
  | pgaddrCt16 x y bp bw => exact pgaddr .ct16 x y bp bw
  | pgaddrCt16s x y bp bw => exact pgaddr .ct16s x y bp bw
  | pgaddrT8 x y bp bw => exact pgaddr .t8 x y bp bw
  | pgaddrT4 x y bp bw => exact pgaddr .t4 x y bp bw
  | pgaddrT8h x y bp bw => exact pgaddr .t8h x y bp bw
  | pgaddrT4hl x y bp bw => exact pgaddr .t4hl x y bp bw
  | pgaddrT4hh x y bp bw => exact pgaddr .t4hh x y bp bw
  | pgaddrZ32 x y bp bw => exact pgaddr .z32 x y bp bw
  | pgaddrZ24 x y bp bw => exact pgaddr .z24 x y bp bw
  | pgaddrZ16 x y bp bw => exact pgaddr .z16 x y bp bw
  | pgaddrZ16s x y bp bw => exact pgaddr .z16s x y bp bw
  | rdpixCt32 x y bp bw => exact rdpix .ct32 x y bp bw
  | rdpixCt24 x y bp bw => exact rdpix .ct24 x y bp bw
  | rdpixCt16 x y bp bw => exact rdpix .ct16 x y bp bw
  | rdpixCt16s x y bp bw => exact rdpix .ct16s x y bp bw
  | rdpixT8 x y bp bw => exact rdpix .t8 x y bp bw
  | rdpixT4 x y bp bw => exact rdpix .t4 x y bp bw
  | rdpixT8h x y bp bw => exact rdpix .t8h x y bp bw
  | rdpixT4hl x y bp bw => exact rdpix .t4hl x y bp bw
  | rdpixT4hh x y bp bw => exact rdpix .t4hh x y bp bw
  | rdpixZ32 x y bp bw => exact rdpix .z32 x y bp bw
  | rdpixZ24 x y bp bw => exact rdpix .z24 x y bp bw
  | rdpixZ16 x y bp bw => exact rdpix .z16 x y bp bw
  | rdpixZ16s x y bp bw => exact rdpix .z16s x y bp bw
  | wrpixCt32 x y bp bw v => exact wrpix .ct32 x y bp bw v
  | wrpixCt24 x y bp bw v => exact wrpix .ct24 x y bp bw v
  | wrpixCt16 x y bp bw v => exact wrpix .ct16 x y bp bw v
  | wrpixCt16s x y bp bw v => exact wrpix .ct16s x y bp bw v
  | wrpixT8 x y bp bw v => exact wrpix .t8 x y bp bw v
  | wrpixT4 x y bp bw v => exact wrpix .t4 x y bp bw v
  | wrpixT8h x y bp bw v => exact wrpix .t8h x y bp bw v
  | wrpixT4hl x y bp bw v => exact wrpix .t4hl x y bp bw v
  | wrpixT4hh x y bp bw v => exact wrpix .t4hh x y bp bw v
  | wrpixZ32 x y bp bw v => exact wrpix .z32 x y bp bw v
  | wrpixZ24 x y bp bw v => exact wrpix .z24 x y bp bw v
  | wrpixZ16 x y bp bw v => exact wrpix .z16 x y bp bw v
  | wrpixZ16s x y bp bw v => exact wrpix .z16s x y bp bw v
  | rdtexCt32 x y bp bw alphad => exact rdtex .ct32 x y bp bw alphad
  | rdtexCt24 x y bp bw alphad => exact rdtex .ct24 x y bp bw alphad
  | rdtexCt16 x y bp bw alphad => exact rdtex .ct16 x y bp bw alphad
  | rdtexCt16s x y bp bw alphad => exact rdtex .ct16s x y bp bw alphad
  | rdtexT8 x y bp bw alphad => exact rdtex .t8 x y bp bw alphad
  | rdtexT4 x y bp bw alphad => exact rdtex .t4 x y bp bw alphad
  | rdtexT8h x y bp bw alphad => exact rdtex .t8h x y bp bw alphad
  | rdtexT4hl x y bp bw alphad => exact rdtex .t4hl x y bp bw alphad
  | rdtexT4hh x y bp bw alphad => exact rdtex .t4hh x y bp bw alphad
  | rdtexZ32 x y bp bw alphad => exact rdtex .z32 x y bp bw alphad
  | rdtexZ24 x y bp bw alphad => exact rdtex .z24 x y bp bw alphad
  | rdtexZ16 x y bp bw alphad => exact rdtex .z16 x y bp bw alphad
  | rdtexZ16s x y bp bw alphad => exact rdtex .z16s x y bp bw alphad
  | swzinCt32 xferd resume src => exact swzin .ct32 xferd resume src
  | swzinCt24 xferd resume src => exact swzin .ct24 xferd resume src
  | swzinCt16 xferd resume src => exact swzin .ct16 xferd resume src
  | swzinCt16s xferd resume src => exact swzin .ct16s xferd resume src
  | swzinT8 xferd resume src => exact swzin .t8 xferd resume src
  | swzinT4 xferd resume src => exact swzin .t4 xferd resume src
  | swzinT8h xferd resume src => exact swzin .t8h xferd resume src
  | swzinT4hl xferd resume src => exact swzin .t4hl xferd resume src
  | swzinT4hh xferd resume src => exact swzin .t4hh xferd resume src
  | swzinZ32 xferd resume src => exact swzin .z32 xferd resume src
  | swzinZ24 xferd resume src => exact swzin .z24 xferd resume src
  | swzinZ16 xferd resume src => exact swzin .z16 xferd resume src
  | swzinZ16s xferd resume src => exact swzin .z16s xferd resume src
  | unswzCt32 rect bp bw mode alphad pitch => exact unswz .ct32 rect bp bw mode alphad pitch
  | unswzCt24 rect bp bw mode alphad pitch => exact unswz .ct24 rect bp bw mode alphad pitch
  | unswzCt16 rect bp bw mode alphad pitch => exact unswz .ct16 rect bp bw mode alphad pitch
  | unswzCt16s rect bp bw mode alphad pitch => exact unswz .ct16s rect bp bw mode alphad pitch
  | unswzT8 rect bp bw mode alphad pitch => exact unswz .t8 rect bp bw mode alphad pitch
  | unswzT4 rect bp bw mode alphad pitch => exact unswz .t4 rect bp bw mode alphad pitch
  | unswzT8h rect bp bw mode alphad pitch => exact unswz .t8h rect bp bw mode alphad pitch
  | unswzT4hl rect bp bw mode alphad pitch => exact unswz .t4hl rect bp bw mode alphad pitch
  | unswzT4hh rect bp bw mode alphad pitch => exact unswz .t4hh rect bp bw mode alphad pitch
  | unswzZ32 rect bp bw mode alphad pitch => exact unswz .z32 rect bp bw mode alphad pitch
  | unswzZ24 rect bp bw mode alphad pitch => exact unswz .z24 rect bp bw mode alphad pitch
  | unswzZ16 rect bp bw mode alphad pitch => exact unswz .z16 rect bp bw mode alphad pitch
  | unswzZ16s rect bp bw mode alphad pitch => exact unswz .z16s rect bp bw mode alphad pitch

/-- An instruction of a format is well-formed as its operands are. -/
theorem wf_swzinOf (f : Format) (x : Xferd) (r : Bool) (src : List Byte) :
    (Instr.swzinOf f x r src).wf = srcFits src := by cases f <;> rfl

/-- A checked operation ends in a next state when what it goes on with does. -/
theorem State.check_next {s : State} {cs : List (Bool × Cause)} {go : Answer State} (h : ∃ t, go = .next t) :
    ∃ t, s.check cs go = .next t := by
  rcases State.check_cases (rfl : s.check cs go = s.check cs go) with ⟨c, -, hc⟩ | ⟨-, hg⟩
  · exact ⟨_, hc⟩
  · rw [hg]
    exact h

end Sys2Proof.Machine
end

