-- ==== Sys2Proof/Laws/Memory.lean ====
section
/-! SUPPORT. The laws of GSMEM: a read after a write, what a write leaves alone, and the canonical form. -/

namespace Sys2Proof.Machine

/-! ### Bytes -/

@[simp] theorem Memory.read_nil (a : Nat) : Memory.read [] a = Config.memReset := rfl

theorem Memory.read_cons (b : Nat) (v : Byte) (m : Memory) (a : Nat) :
    Memory.read ((b, v) :: m) a = if a = b then v else Memory.read m a := rfl

/-- An address that is not listed reads as reset left it. -/
theorem Memory.read_unlisted {m : Memory} {a : Nat} (h : ∀ c ∈ m, c.1 ≠ a) : Memory.read m a = Config.memReset := by
  induction m with
  | nil => rfl
  | cons c m ih =>
    obtain ⟨b, v⟩ := c
    have hb : a ≠ b := fun e => h (b, v) (by simp) e.symm
    simp only [Memory.read_cons, if_neg hb]
    exact ih fun c hc => h c (by simp [hc])

theorem Memory.read_insert {m : Memory} {a : Nat} (v : Byte) (h : ∀ c ∈ m, c.1 ≠ a) (b : Nat) :
    Memory.read (Memory.insert m a v) b = if b = a then v else Memory.read m b := by
  induction m with
  | nil => simp [Memory.insert, Memory.read_cons]
  | cons c m ih =>
    obtain ⟨d, w⟩ := c
    have hd : d ≠ a := h (d, w) (by simp)
    simp only [Memory.insert]
    split
    · simp [Memory.read_cons]
    · rw [Memory.read_cons, ih fun c hc => h c (by simp [hc]), Memory.read_cons]
      by_cases h1 : b = d <;> by_cases h2 : b = a <;> simp_all

theorem Memory.read_erase (m : Memory) (a b : Nat) :
    Memory.read (Memory.erase m a) b = if b = a then Config.memReset else Memory.read m b := by
  induction m with
  | nil => simp [Memory.erase]
  | cons c m ih =>
    obtain ⟨d, w⟩ := c
    have hcons : Memory.erase ((d, w) :: m) a = if d ≠ a then (d, w) :: Memory.erase m a else Memory.erase m a := by
      simp [Memory.erase, List.filter_cons]
    rw [hcons]
    split
    · rw [Memory.read_cons, Memory.read_cons, ih]
      by_cases h1 : b = d <;> by_cases h2 : b = a <;> simp_all
    · rename_i hd
      rw [ih, Memory.read_cons]
      by_cases h1 : b = d <;> by_cases h2 : b = a <;> simp_all

theorem Memory.not_mem_erase (m : Memory) (a : Nat) : ∀ c ∈ Memory.erase m a, c.1 ≠ a := by
  intro c hc
  simpa [Memory.erase] using (List.mem_filter.1 hc).2

/-- All that a write of one byte can do to a read. -/
@[simp] theorem Memory.read_write (m : Memory) (a : Nat) (v : Byte) (b : Nat) :
    Memory.read (Memory.write m a v) b = if b = a then v else Memory.read m b := by
  unfold Memory.write
  split
  · rename_i hv
    rw [Memory.read_erase, hv]
  · rw [Memory.read_insert v (Memory.not_mem_erase m a), Memory.read_erase]
    by_cases h : b = a <;> simp [h]

/-! ### Units -/

/-- Bits taken out of bits taken out. -/
theorem extract_extract {n : Nat} (v : BitVec n) {i k j l : Nat} (h : j + l ≤ k) :
    (v.extractLsb' i k).extractLsb' j l = v.extractLsb' (i + j) l := by
  refine BitVec.eq_of_getLsbD_eq fun b hb => ?_
  simp [hb, show j + b < k by omega, Nat.add_assoc]

@[simp] theorem Memory.read_write16 (m : Memory) (a : Nat) (v : BitVec 16) (b : Nat) :
    Memory.read (Memory.write16 m a v) b =
      if b = a + 1 then v.extractLsb' 8 8 else if b = a then v.extractLsb' 0 8 else Memory.read m b := by
  simp [Memory.write16]

@[simp] theorem Memory.read_write32 (m : Memory) (a : Nat) (v : Word32) (b : Nat) :
    Memory.read (Memory.write32 m a v) b =
      if b = a + 3 then v.extractLsb' 24 8 else if b = a + 2 then v.extractLsb' 16 8
      else if b = a + 1 then v.extractLsb' 8 8 else if b = a then v.extractLsb' 0 8 else Memory.read m b := by
  simp only [Memory.write32, Memory.read_write16]
  rw [extract_extract v (by omega), extract_extract v (by omega), extract_extract v (by omega),
    extract_extract v (by omega)]

/-- A unit of two bytes depends on its two bytes only. -/
theorem Memory.read16_congr {m n : Memory} {a : Nat} (h0 : Memory.read m a = Memory.read n a)
    (h1 : Memory.read m (a + 1) = Memory.read n (a + 1)) : Memory.read16 m a = Memory.read16 n a := by
  simp [Memory.read16, h0, h1]

/-- A unit of four bytes depends on its four bytes only. -/
theorem Memory.read32_congr {m n : Memory} {a : Nat} (h : ∀ i < 4, Memory.read m (a + i) = Memory.read n (a + i)) :
    Memory.read32 m a = Memory.read32 n a := by
  have h0 := h 0 (by omega)
  have h1 := h 1 (by omega)
  have h2 := h 2 (by omega)
  have h3 := h 3 (by omega)
  simp only [Memory.read32, Memory.read16, Nat.add_assoc]
  simp_all

@[simp] theorem Memory.read16_write16 (m : Memory) (a : Nat) (v : BitVec 16) :
    Memory.read16 (Memory.write16 m a v) a = v := by
  simp only [Memory.read16, Memory.read_write16, if_true]
  rw [if_neg (by omega)]
  refine BitVec.eq_of_getLsbD_eq fun i hi => ?_
  rw [BitVec.getLsbD_append]
  by_cases h : i < 8
  · simp [h]
  · have h8 : 8 + (i - 8) = i := by omega
    simp [h, h8, show i - 8 < 8 by omega]

@[simp] theorem Memory.read32_write32 (m : Memory) (a : Nat) (v : Word32) :
    Memory.read32 (Memory.write32 m a v) a = v := by
  have hlow : Memory.read16 (Memory.write32 m a v) a = v.extractLsb' 0 16 := by
    rw [Memory.write32, Memory.read16_congr (n := Memory.write16 m a (v.extractLsb' 0 16)), Memory.read16_write16]
    all_goals
      rw [Memory.read_write16 _ (a + 2), if_neg (by omega), if_neg (by omega)]
  have hhigh : Memory.read16 (Memory.write32 m a v) (a + 2) = v.extractLsb' 16 16 := by
    rw [Memory.write32, Memory.read16_write16]
  simp only [Memory.read32]
  rw [hlow, hhigh]
  refine BitVec.eq_of_getLsbD_eq fun i hi => ?_
  rw [BitVec.getLsbD_append]
  by_cases h : i < 16
  · simp [h]
  · have h8 : 16 + (i - 16) = i := by omega
    simp [h, h8, show i - 16 < 16 by omega]

/-! ### The canonical form -/

theorem Memory.wf_nil : Memory.wf [] := by simp [Memory.wf]

theorem Memory.wf_erase {m : Memory} (h : Memory.wf m) (a : Nat) : Memory.wf (Memory.erase m a) :=
  ⟨h.1.filter _, fun c hc => h.2 c (List.mem_filter.1 hc).1⟩

theorem Memory.mem_insert {m : Memory} {a : Nat} {v : Byte} {c : Host.Cell} :
    c ∈ Memory.insert m a v ↔ c = (a, v) ∨ c ∈ m := by
  induction m with
  | nil => simp [Memory.insert]
  | cons d m ih =>
    obtain ⟨b, w⟩ := d
    simp only [Memory.insert]
    split <;> simp [ih]
    tauto

theorem Memory.sorted_insert {m : Memory} {a : Nat} (v : Byte) (hm : m.Pairwise fun c d => c.1 < d.1)
    (h : ∀ c ∈ m, c.1 ≠ a) : (Memory.insert m a v).Pairwise fun c d => c.1 < d.1 := by
  induction m with
  | nil => simp [Memory.insert]
  | cons d m ih =>
    obtain ⟨b, w⟩ := d
    rw [List.pairwise_cons] at hm
    have hb : b ≠ a := h (b, w) (by simp)
    simp only [Memory.insert]
    split
    · rename_i hab
      refine List.pairwise_cons.2 ⟨fun c hc => ?_, List.pairwise_cons.2 hm⟩
      rcases List.mem_cons.1 hc with rfl | hc
      · exact hab
      · exact Nat.lt_trans hab (hm.1 c hc)
    · rename_i hab
      refine List.pairwise_cons.2 ⟨fun c hc => ?_, ih hm.2 fun c hc => h c (by simp [hc])⟩
      rcases Memory.mem_insert.1 hc with rfl | hc
      · simp only
        omega
      · exact hm.1 c hc

/-- A write inside the arena keeps the canonical form. -/
theorem Memory.wf_write {m : Memory} (h : Memory.wf m) {a : Nat} (ha : a < Config.vmSize) (v : Byte) :
    Memory.wf (Memory.write m a v) := by
  unfold Memory.write
  split
  · exact Memory.wf_erase h a
  · rename_i hv
    refine ⟨Memory.sorted_insert v (Memory.wf_erase h a).1 (Memory.not_mem_erase m a), fun c hc => ?_⟩
    rcases Memory.mem_insert.1 hc with rfl | hc
    · exact ⟨ha, hv⟩
    · exact (Memory.wf_erase h a).2 c hc

theorem Memory.wf_write16 {m : Memory} (h : Memory.wf m) {a : Nat} (ha : a + 2 ≤ Config.vmSize) (v : BitVec 16) :
    Memory.wf (Memory.write16 m a v) :=
  Memory.wf_write (Memory.wf_write h (by omega) _) (by omega) _

theorem Memory.wf_write32 {m : Memory} (h : Memory.wf m) {a : Nat} (ha : a + 4 ≤ Config.vmSize) (v : Word32) :
    Memory.wf (Memory.write32 m a v) :=
  Memory.wf_write16 (Memory.wf_write16 h (by omega) _) (by omega) _

/-- Memories in canonical form that read alike are equal. -/
theorem Memory.ext_read {m n : Memory} (hm : Memory.wf m) (hn : Memory.wf n)
    (h : ∀ a, Memory.read m a = Memory.read n a) : m = n := by
  induction m generalizing n with
  | nil =>
    cases n with
    | nil => rfl
    | cons d n =>
      obtain ⟨b, w⟩ := d
      have := h b
      rw [Memory.read_nil, Memory.read_cons, if_pos rfl] at this
      exact absurd this.symm (hn.2 (b, w) (by simp)).2
  | cons c m ih =>
    obtain ⟨a, v⟩ := c
    cases n with
    | nil =>
      have := h a
      rw [Memory.read_nil, Memory.read_cons, if_pos rfl] at this
      exact absurd this (hm.2 (a, v) (by simp)).2
    | cons d n =>
      obtain ⟨b, w⟩ := d
      have hm1 := List.pairwise_cons.1 hm.1
      have hn1 := List.pairwise_cons.1 hn.1
      have hv := (hm.2 (a, v) (by simp)).2
      have hw := (hn.2 (b, w) (by simp)).2
      have low : ∀ {k : Memory} {x : Nat}, (∀ c ∈ k, x < c.1) → Memory.read k x = Config.memReset :=
        fun hk => Memory.read_unlisted fun c hc => Nat.ne_of_gt (hk c hc)
      have hab : a = b := by
        rcases Nat.lt_trichotomy a b with hlt | heq | hgt
        · have := h a
          rw [Memory.read_cons, if_pos rfl, Memory.read_cons, if_neg (by omega),
            low fun c hc => Nat.lt_trans hlt (hn1.1 c hc)] at this
          exact absurd this hv
        · exact heq
        · have := h b
          rw [Memory.read_cons, if_neg (by omega), low fun c hc => Nat.lt_trans hgt (hm1.1 c hc),
            Memory.read_cons, if_pos rfl] at this
          exact absurd this.symm hw
      subst hab
      have hvw := h a
      rw [Memory.read_cons, if_pos rfl, Memory.read_cons, if_pos rfl] at hvw
      subst hvw
      refine congrArg _ (ih ⟨hm1.2, fun c hc => hm.2 c (by simp [hc])⟩ ⟨hn1.2, fun c hc => hn.2 c (by simp [hc])⟩ fun x => ?_)
      by_cases hx : x = a
      · rw [hx, low hm1.1, low hn1.1]
      · have := h x
        rwa [Memory.read_cons, if_neg hx, Memory.read_cons, if_neg hx] at this

/-- The bytes of an image, listed from address `i` on. -/
theorem Memory.read_zipIdx (bytes : List Byte) (i a : Nat) :
    Memory.read (((bytes.zipIdx i).filter fun b => b.1 ≠ Config.memReset).map fun b => (b.2, b.1)) a =
      if i ≤ a then bytes.getD (a - i) Config.memReset else Config.memReset := by
  induction bytes generalizing i with
  | nil => simp
  | cons b bytes ih =>
    rw [List.zipIdx_cons, List.filter_cons]
    by_cases hb : b = Config.memReset
    · rw [if_neg (by simp [hb]), ih (i + 1)]
      by_cases h1 : i ≤ a
      · rw [if_pos h1]
        by_cases h2 : i = a
        · subst h2
          simp [hb]
        · obtain ⟨k, hk⟩ : ∃ k, a = i + k + 1 := ⟨a - i - 1, by omega⟩
          subst hk
          simp [show i + k + 1 - i = k + 1 by omega, show i + k + 1 - (i + 1) = k by omega, show i + 1 ≤ i + k + 1 by omega]
      · rw [if_neg h1, if_neg (by omega)]
    · rw [if_pos (by simp [hb]), List.map_cons, Memory.read_cons, ih (i + 1)]
      by_cases h1 : i ≤ a
      · rw [if_pos h1]
        by_cases h2 : i = a
        · subst h2
          simp
        · obtain ⟨k, hk⟩ : ∃ k, a = i + k + 1 := ⟨a - i - 1, by omega⟩
          subst hk
          simp [show i + k + 1 - i = k + 1 by omega, show i + k + 1 - (i + 1) = k by omega,
            show i + 1 ≤ i + k + 1 by omega, show i + k + 1 ≠ i by omega]
      · rw [if_neg h1, if_neg (by omega), if_neg (by omega)]

/-- Reading what an image put there (45_host_ops.md R389). -/
@[simp] theorem Memory.read_ofBytes (bytes : List Byte) (a : Nat) :
    Memory.read (Memory.ofBytes bytes) a = bytes.getD a Config.memReset := by
  have := Memory.read_zipIdx bytes 0 a
  simpa [Memory.ofBytes] using this

theorem Memory.sorted_zipIdx (bytes : List Byte) (i : Nat) :
    (bytes.zipIdx i).Pairwise fun b c => b.2 < c.2 := by
  induction bytes generalizing i with
  | nil => simp
  | cons b bytes ih =>
    rw [List.zipIdx_cons, List.pairwise_cons]
    refine ⟨fun c hc => ?_, ih (i + 1)⟩
    have := List.le_snd_of_mem_zipIdx hc
    simp only
    omega

/-- The memory of an image that fits the arena is in canonical form. -/
theorem Memory.wf_ofBytes {bytes : List Byte} (h : bytes.length ≤ Config.vmSize) : Memory.wf (Memory.ofBytes bytes) := by
  refine ⟨?_, fun c hc => ?_⟩
  · refine List.pairwise_map.2 ?_
    exact (Memory.sorted_zipIdx bytes 0).filter _
  · obtain ⟨b, hb, rfl⟩ := List.mem_map.1 hc
    obtain ⟨hb, hne⟩ := List.mem_filter.1 hb
    have := List.snd_lt_of_mem_zipIdx hb
    exact ⟨by simp only; omega, by simpa using hne⟩

end Sys2Proof.Machine
end

