-- ==== Sys2Proof/Laws/Pixel.lean ====
section
/-! SUPPORT. The laws of the tables, of the addressing mode and of the pixel read and write. -/

namespace Sys2Proof.Machine

/-! ### The tables -/

theorem bitAt_lt (n k : Nat) : bitAt n k < 2 := Nat.mod_lt _ (by decide)

theorem blk32_lt (j i : Nat) : blk32 j i < 32 := by
  have := bitAt_lt i 0; have := bitAt_lt j 0; have := bitAt_lt i 1; have := bitAt_lt j 1; have := bitAt_lt i 2
  unfold blk32
  omega

theorem blk16_lt (j i : Nat) : blk16 j i < 32 := by
  have := bitAt_lt j 0; have := bitAt_lt i 0; have := bitAt_lt j 1; have := bitAt_lt i 1; have := bitAt_lt j 2
  unfold blk16
  omega

theorem blk16s_lt (j i : Nat) : blk16s j i < 32 := by
  have := bitAt_lt j 0; have := bitAt_lt i 0; have := bitAt_lt j 2; have := bitAt_lt j 1; have := bitAt_lt i 1
  unfold blk16s
  omega

/-- A block's place lies in its page (40_address_translator.md R134). -/
theorem blkEntry_lt (t : BlkTab) (j i : Nat) : blkEntry t j i < Config.blocksPerPage := by
  have h32 := blk32_lt j i
  have h16 := blk16_lt j i
  have h16s := blk16s_lt j i
  have hx : ∀ {n : Nat}, n < 32 → n ^^^ 24 < 32 := fun h => Nat.xor_lt_two_pow (n := 5) h (by decide)
  cases t <;> simp only [blkEntry, Config.blocksPerPage] <;> first | assumption | exact hx ‹_›

/-- A pixel's place lies in its block (40_address_translator.md R135). -/
theorem colEntry_lt (f : Format) (r c : Nat) : colEntry (fmt f).col r c < unitsPerBlock f := by
  have hb := bitAt_lt
  have hx : bitAt c 2 ^^^ bitAt r 1 ^^^ bitAt r 2 < 2 :=
    Nat.xor_lt_two_pow (n := 1) (Nat.xor_lt_two_pow (n := 1) (hb _ _) (hb _ _)) (hb _ _)
  have := hb c 0; have := hb c 1; have := hb c 2; have := hb c 3; have := hb c 4
  have := hb r 0; have := hb r 1; have := hb r 2; have := hb r 3
  cases f <;> simp only [fmt, colEntry, unitsPerBlock] <;> omega

/-! ### The unit of a pixel -/

/-- A pixel read depends on the bytes of its unit only (20_memory.md R66). -/
theorem readPixel_congr {m n : Memory} {f : Format} {x y bp bw : Nat}
    (h : ∀ a, unitByte f x y bp bw ≤ a → a < unitByte f x y bp bw + unitBytes f → Memory.read m a = Memory.read n a) :
    readPixel m f x y bp bw = readPixel n f x y bp bw := by
  unfold unitByte unitBytes at h
  unfold readPixel
  cases hc : (fmt f).cls <;> simp only [hc] at h ⊢
  · rw [Memory.vm32, Memory.vm32, Memory.read32_congr fun i hi => h _ (by omega) (by omega)]
  · rw [Memory.vm16, Memory.vm16, Memory.read16_congr (h _ (by omega) (by omega)) (h _ (by omega) (by omega))]
  · rw [h _ (by omega) (by omega)]
  · rw [h _ (by omega) (by omega)]

/-- A pixel write leaves every byte outside the pixel's unit alone (41_pixel_io.md R190). -/
theorem read_writePixel_of_outside {m : Memory} {f : Format} {x y bp bw : Nat} (v : Word32) {a : Nat}
    (h : a < unitByte f x y bp bw ∨ unitByte f x y bp bw + unitBytes f ≤ a) :
    Memory.read (writePixel m f x y bp bw v) a = Memory.read m a := by
  unfold unitByte unitBytes at h
  unfold writePixel
  cases hc : (fmt f).cls <;> simp only [hc] at h ⊢
  · rw [Memory.read_write32, if_neg (by omega), if_neg (by omega), if_neg (by omega), if_neg (by omega)]
  · rw [Memory.read_write16, if_neg (by omega), if_neg (by omega)]
  · rw [Memory.read_write, if_neg (by omega)]
  · rw [Memory.read_write, if_neg (by omega)]

/-- A pixel write inside the arena keeps the canonical form. -/
theorem wf_writePixel {m : Memory} (hm : Memory.wf m) {f : Format} {x y bp bw : Nat} (v : Word32)
    (h : inArena f bp bw (x, y) = true) : Memory.wf (writePixel m f x y bp bw v) := by
  unfold inArena inBounds unitByte unitBytes at h
  unfold writePixel
  cases hc : (fmt f).cls <;> simp only [hc, decide_eq_true_eq] at h ⊢
  · exact Memory.wf_write32 hm h _
  · exact Memory.wf_write16 hm h _
  · exact Memory.wf_write hm (by omega) _
  · exact Memory.wf_write hm (by omega) _

/-! ### Pixels written one after another -/

/-- A byte outside the units of all the pixels written keeps its value. -/
theorem read_swzinWrite_of_outside {f : Format} {bp bw : Nat} {src : List Byte} {a : Nat} (ps : List (Nat × Nat)) (k : Nat)
    (m : Memory)
    (h : ∀ p ∈ ps, a < unitByte f p.1 p.2 bp bw ∨ unitByte f p.1 p.2 bp bw + unitBytes f ≤ a) :
    Memory.read (swzinWrite f bp bw src ps k m) a = Memory.read m a := by
  induction ps generalizing k m with
  | nil => rfl
  | cons p ps ih =>
    rw [swzinWrite, ih _ _ fun q hq => h q (by simp [hq]), read_writePixel_of_outside _ (h p (by simp))]

theorem wf_swzinWrite {f : Format} {bp bw : Nat} {src : List Byte} (ps : List (Nat × Nat)) (k : Nat) {m : Memory}
    (hm : Memory.wf m) (h : ps.all (inArena f bp bw) = true) : Memory.wf (swzinWrite f bp bw src ps k m) := by
  induction ps generalizing k m with
  | nil => exact hm
  | cons p ps ih =>
    rw [List.all_cons, Bool.and_eq_true] at h
    exact ih _ (wf_writePixel hm _ h.1) h.2

/-- The pixels of one list and then those of another. -/
theorem swzinWrite_append (f : Format) (bp bw : Nat) (src : List Byte) (ps qs : List (Nat × Nat)) (k : Nat) (m : Memory) :
    swzinWrite f bp bw src (ps ++ qs) k m =
      swzinWrite f bp bw src qs (k + ps.length) (swzinWrite f bp bw src ps k m) := by
  induction ps generalizing k m with
  | nil => simp [swzinWrite]
  | cons p ps ih =>
    simp only [List.cons_append, swzinWrite, List.length_cons]
    rw [ih, show k + 1 + ps.length = k + (ps.length + 1) by omega]

/-! ### The walk -/

@[simp] theorem Walk.positions_length (k : Walk) (n : Nat) (p : Nat × Nat) : (k.positions n p).length = n := by
  induction n generalizing p with
  | zero => rfl
  | succ n ih => simp [Walk.positions, ih]

theorem Walk.positions_add (k : Walk) (m n : Nat) (p : Nat × Nat) :
    k.positions (m + n) p = k.positions m p ++ k.positions n (k.after m p) := by
  induction m generalizing p with
  | zero => simp [Walk.positions, Walk.after]
  | succ m ih =>
    rw [show m + 1 + n = (m + n) + 1 by omega]
    simp [Walk.positions, Walk.after, ih]

theorem Walk.after_add (k : Walk) (m n : Nat) (p : Nat × Nat) : k.after (m + n) p = k.after n (k.after m p) := by
  induction m generalizing p with
  | zero => simp [Walk.after]
  | succ m ih =>
    rw [show m + 1 + n = (m + n) + 1 by omega]
    simp [Walk.after, ih]

/-! ### Rectangles -/

theorem Rect.has_iff (r : Rect) (x y : Nat) :
    r.has x y = true ↔ r.left ≤ x ∧ x < r.right ∧ r.top ≤ y ∧ y < r.bottom := by
  simp [Rect.has, and_assoc]

@[simp] theorem Rect.mem_pixels (r : Rect) (p : Nat × Nat) : p ∈ r.pixels ↔ r.has p.1 p.2 = true := by
  obtain ⟨x, y⟩ := p
  simp only [Rect.pixels, List.mem_flatMap, List.mem_map, List.mem_range'_1, Rect.has_iff, Prod.mk.injEq]
  constructor
  · rintro ⟨y', hy, x', hx, rfl, rfl⟩
    omega
  · rintro h
    exact ⟨y, by omega, x, by omega, rfl, rfl⟩

theorem Rect.tabulate_length (r : Rect) (g : Nat → Nat → Word32) : (r.tabulate g).length = r.bottom - r.top := by
  simp [Rect.tabulate]

theorem Rect.tabulate_row_length {r : Rect} {g : Nat → Nat → Word32} : ∀ row ∈ r.tabulate g, row.length = r.right - r.left := by
  intro row h
  obtain ⟨y, -, rfl⟩ := List.mem_map.1 h
  simp

/-- A texel of a tabulated rectangle. -/
theorem texelAt_tabulate {r : Rect} {g : Nat → Nat → Word32} {x y : Nat} (h : r.has x y = true) :
    texelAt (r.tabulate g) (x - r.left) (y - r.top) = g x y := by
  rw [Rect.has_iff] at h
  have hy : y - r.top < r.bottom - r.top := by omega
  have hx : x - r.left < r.right - r.left := by omega
  simp [texelAt, Rect.tabulate, hy, hx, show r.top + (y - r.top) = y by omega, show r.left + (x - r.left) = x by omega]

end Sys2Proof.Machine
end

