-- ==== Sys2Proof/Laws/Ops.lean ====
section
/-! SUPPORT. What each shared operation can do, said once: if it answers `next t`, then `t` is a failed state or the one
state the rules give. -/

namespace Sys2Proof.Machine

/-- `bw` is not zero and the pixel's unit lies in the arena. -/
theorem pixelChecks_pass {f : Format} {x y : CoordArg} {bp : BasePtr} {bw : BufWidth} :
    (∀ c ∈ pixelChecks f x y bp bw, c.1 = false) ↔
      bw ≠ 0 ∧ inArena f bp.toNat bw.toNat (x.toNat, y.toNat) = true := by
  simp [pixelChecks]

theorem addressOp_cases {value : Nat → Nat → Nat → Nat → Nat} {x y : CoordArg} {bp : BasePtr} {bw : BufWidth}
    {s t : State} (h : addressOp value x y bp bw s = .next t) :
    (bw = 0 ∧ t = s.failed (.cv .badBw)) ∨
      (bw ≠ 0 ∧ t = s.succeeded (.index (value x.toNat y.toNat bp.toNat bw.toNat))) := by
  unfold addressOp at h
  split at h
  · exact .inl ⟨‹_›, by simpa using h⟩
  · exact .inr ⟨‹_›, by simpa using h⟩

theorem rdpix_cases {f : Format} {x y : CoordArg} {bp : BasePtr} {bw : BufWidth} {s t : State}
    (h : rdpix f x y bp bw s = .next t) :
    (∃ c, t = s.failed (.cv c)) ∨
      (bw ≠ 0 ∧ inArena f bp.toNat bw.toNat (x.toNat, y.toNat) = true ∧
        t = s.succeeded (.word (readPixel s.mem f x.toNat y.toNat bp.toNat bw.toNat))) := by
  rcases State.check_cases h with ⟨c, -, hc⟩ | ⟨hp, hg⟩
  · exact .inl ⟨c, by simpa using hc⟩
  · have := pixelChecks_pass.1 hp
    exact .inr ⟨this.1, this.2, by simpa using hg.symm⟩

theorem wrpix_cases {f : Format} {x y : CoordArg} {bp : BasePtr} {bw : BufWidth} {v : Word32} {s t : State}
    (h : wrpix f x y bp bw v s = .next t) :
    (∃ c, t = s.failed (.cv c)) ∨
      (bw ≠ 0 ∧ inArena f bp.toNat bw.toNat (x.toNat, y.toNat) = true ∧
        t = State.succeeded { s with mem := writePixel s.mem f x.toNat y.toNat bp.toNat bw.toNat v } .none) := by
  rcases State.check_cases h with ⟨c, -, hc⟩ | ⟨hp, hg⟩
  · exact .inl ⟨c, by simpa using hc⟩
  · have := pixelChecks_pass.1 hp
    exact .inr ⟨this.1, this.2, by simpa using hg.symm⟩

theorem rdtex_cases {f : Format} {x y : CoordArg} {bp : BasePtr} {bw : BufWidth} {alphad : Desc} {s t : State}
    (h : rdtex f x y bp bw alphad s = .next t) :
    (∃ c, t = s.failed (.cv c)) ∨
      (bw ≠ 0 ∧ inArena f bp.toNat bw.toNat (x.toNat, y.toNat) = true ∧
        t = s.succeeded (.word (readTexel s.mem s.clut32 alphad f bp.toNat bw.toNat x.toNat y.toNat))) := by
  rcases State.check_cases h with ⟨c, -, hc⟩ | ⟨hp, hg⟩
  · exact .inl ⟨c, by simpa using hc⟩
  · have := pixelChecks_pass.1 hp
    exact .inr ⟨this.1, this.2, by simpa using hg.symm⟩

theorem swzin_cases {f : Format} {d : Xferd} {resume : Bool} {src : List Byte} {s t : State}
    (h : swzin f d resume src s = .next t) :
    (∃ c, t = s.failed (.cv c)) ∨
      ∃ p, swzinStart (destWalk d) resume s.cur = some p ∧ (∀ c ∈ swzinChecks f d, c.1 = false) ∧
        ((destWalk d).positions (swzinCount f (destWalk d) p src) p).all
          (inArena f (xferDbp d).toNat (xferDbw d).toNat) = true ∧
        swzinFrom f d src s p = .next t := by
  rcases State.check_cases h with ⟨c, -, hc⟩ | ⟨hp, hg⟩
  · exact .inl ⟨c, by simpa using hc⟩
  · split at hg
    · exact .inl ⟨_, by simpa using hg.symm⟩
    · rename_i p hs
      by_cases ha : ((destWalk d).positions (swzinCount f (destWalk d) p src) p).all
          (inArena f (xferDbp d).toNat (xferDbw d).toNat) = true
      · exact .inr ⟨p, hs, hp, ha, hg.symm⟩
      · refine .inl ⟨.oob, ?_⟩
        unfold swzinFrom at hg
        rw [if_neg ha] at hg
        simpa using hg.symm

/-- `SWZIN.f` from a start whose pixels all lie in the arena (43_swizzle_engine.md R290). -/
theorem swzinFrom_next {f : Format} {d : Xferd} {src : List Byte} {s : State} {p : Nat × Nat}
    (h : ((destWalk d).positions (swzinCount f (destWalk d) p src) p).all
      (inArena f (xferDbp d).toNat (xferDbw d).toNat) = true) :
    swzinFrom f d src s p = .next (State.succeeded
      { s with
        mem := swzinWrite f (xferDbp d).toNat (xferDbw d).toNat src
          ((destWalk d).positions (swzinCount f (destWalk d) p src) p) 0 s.mem
        cur := cursorAfter ((destWalk d).after (swzinCount f (destWalk d) p src) p) (destWalk d).stop }
      (.transfer (cursorAfter ((destWalk d).after (swzinCount f (destWalk d) p src) p) (destWalk d).stop).x
        (cursorAfter ((destWalk d).after (swzinCount f (destWalk d) p src) p) (destWalk d).stop).y
        (cursorAfter ((destWalk d).after (swzinCount f (destWalk d) p src) p) (destWalk d).stop).active
        (ceilDiv (swzinCount f (destWalk d) p src * (fmt f).trbpp) 8))) := by
  unfold swzinFrom
  rw [if_pos h]
  rfl

theorem unswz_cases {f : Format} {rect : RectArg} {bp : BasePtr} {bw : BufWidth} {mode : BitVec 2} {alphad : Desc}
    {pitch : Word32} {s t : State} (h : unswz f rect bp bw mode alphad pitch s = .next t) :
    (∃ c, t = s.failed (.cv c)) ∨
      ∃ e, modeWidth f mode = some e ∧ (∀ c ∈ unswzChecks (rectOf rect) bw, c.1 = false) ∧
        ceilDiv (((rectOf rect).right - (rectOf rect).left) * e) 8 ≤ pitch.toNat ∧
        (rectOf rect).pixels.all (inArena f bp.toNat bw.toNat) = true ∧
        t = s.succeeded (.rows pitch.toNat (unswzRows s f (rectOf rect) bp bw mode alphad e)) := by
  rcases State.check_cases h with ⟨c, -, hc⟩ | ⟨hp, hg⟩
  · exact .inl ⟨c, by simpa using hc⟩
  · split at hg
    · exact .inl ⟨_, by simpa using hg.symm⟩
    · rename_i e he
      rcases State.check_cases hg.symm with ⟨c, -, hc⟩ | ⟨hq, hr⟩
      · exact .inl ⟨c, by simpa using hc⟩
      · have h1 := hq _ (List.mem_cons_self ..)
        have h2 := hq _ (List.mem_cons_of_mem _ (List.mem_cons_self ..))
        simp only [decide_eq_false_iff_not, Nat.not_lt] at h1
        simp only [Bool.not_eq_false'] at h2
        exact .inr ⟨e, he, hp, h1, h2, by simpa using hr.symm⟩

/-! ### Pixels copied one after another -/

theorem read_copyPixels_of_outside {f g : Format} {d : Xferd} {a : Nat} (os : List (Nat × Nat)) (m : Memory)
    (h : ∀ o ∈ os,
      a < unitByte g (xferDest d o).1 (xferDest d o).2 (xferDbp d).toNat (xferDbw d).toNat ∨
        unitByte g (xferDest d o).1 (xferDest d o).2 (xferDbp d).toNat (xferDbw d).toNat + unitBytes g ≤ a) :
    Memory.read (os.foldl (copyPixel f g d) m) a = Memory.read m a := by
  induction os generalizing m with
  | nil => rfl
  | cons o os ih =>
    rw [List.foldl_cons, ih _ fun q hq => h q (by simp [hq]), copyPixel, read_writePixel_of_outside _ (h o (by simp))]

theorem wf_copyPixels {f g : Format} {d : Xferd} (os : List (Nat × Nat)) {m : Memory} (hm : Memory.wf m)
    (h : ∀ o ∈ os, inArena g (xferDbp d).toNat (xferDbw d).toNat (xferDest d o) = true) :
    Memory.wf (os.foldl (copyPixel f g d) m) := by
  induction os generalizing m with
  | nil => exact hm
  | cons o os ih => exact ih (wf_writePixel hm _ (h o (by simp))) fun q hq => h q (by simp [hq])

theorem execXfermm_cases {d : Xferd} {s t : State} (h : execXfermm d s = .next t) :
    (∃ c, t = s.failed (.cv c)) ∨
      ∃ f g, formatOf (xferSpsm d) = some f ∧ formatOf (xferDpsm d) = some g ∧
        (∀ c ∈ xferChecks d 2, c.1 = false) ∧ (∀ c ∈ xfermmChecks f g d, c.1 = false) ∧
        t = State.succeeded { s with mem := (xferOffsets d).foldl (copyPixel f g d) s.mem } .none := by
  rcases State.check_cases h with ⟨c, -, hc⟩ | ⟨hp, hg⟩
  · exact .inl ⟨c, by simpa using hc⟩
  · split at hg
    · rename_i f g hf hg'
      rcases State.check_cases hg.symm with ⟨c, -, hc⟩ | ⟨hq, hr⟩
      · exact .inl ⟨c, by simpa using hc⟩
      · exact .inr ⟨f, g, hf, hg', hp, hq, by simpa using hr.symm⟩
    · exact .inl ⟨_, by simpa using hg.symm⟩

/-! ### The palette -/

theorem execClutwr_cases {texd clutd : Desc} {s t : State} (h : execClutwr texd clutd s = .next t) :
    (∃ c, t = s.failed (.cv c)) ∨
      ∃ n cpf, paletteOf texd = .ok (n, cpf) ∧ ¬(Texd.csm texd = true ∧ Clutd.cbw clutd = 0) ∧
        ((s.clutDirty = false ∧ s.clutSnap = some (clutSig n texd clutd) ∧ t = s.succeeded .none) ∨
          (srcInArena cpf n texd clutd = true ∧ t = (clutRebuilt s n cpf texd clutd).succeeded .none)) := by
  unfold execClutwr at h
  split at h
  · exact .inl ⟨_, by simpa using h⟩
  · rename_i n cpf hp
    split at h
    · exact .inl ⟨_, by simpa using h⟩
    · rename_i hb
      split at h
      · rename_i hk
        exact .inr ⟨n, cpf, hp, hb, .inl ⟨hk.1, hk.2, by simpa using h⟩⟩
      · split at h
        · exact .inr ⟨n, cpf, hp, hb, .inr ⟨‹_›, by simpa using h⟩⟩
        · exact .inl ⟨_, by simpa using h⟩

theorem execClutrd32_cases {texd alphad : Desc} {s t : State} (h : execClutrd32 texd alphad s = .next t) :
    (∃ c, t = s.failed (.cv c)) ∨
      ∃ n cpf, paletteOf texd = .ok (n, cpf) ∧
        t = State.succeeded { s with clut32 := clut32Rebuilt s n cpf texd alphad }
          (.palette (clut32Rebuilt s n cpf texd alphad)) := by
  unfold execClutrd32 at h
  split at h
  · exact .inl ⟨_, by simpa using h⟩
  · rename_i n cpf hp
    exact .inr ⟨n, cpf, hp, by simpa using h⟩

/-- An entry of `CLUT` after a store. -/
theorem getElem_clutStore (clut : ClutMemory) (wide : Bool) (b n : Nat) (entry : Nat → Word32) (k : Nat)
    (hk : k < Config.clutEntries) :
    (clutStore clut wide b n entry)[k] =
      if b ≤ k ∧ k < b + n then (entry (k - b)).extractLsb' 0 16
      else if wide = true ∧ b + Config.clutBank ≤ k ∧ k < b + Config.clutBank + n then
        (entry (k - b - Config.clutBank)).extractLsb' 16 16
      else clut[k] := by
  simp [clutStore, Bool.and_eq_true, and_assoc]

/-- An entry of `CLUT32` after a read of the palette. -/
theorem getElem_clut32Store (clut32 : Palette) (n : Nat) (colour : Nat → Word32) (k : Nat)
    (hk : k < Config.clut32Entries) :
    (clut32Store clut32 n colour)[k] = if k < n then colour k else clut32[k] := by
  simp [clut32Store]

/-! ### The texture cache -/

/-- Either nothing fits and nothing changes, or the first that fits changes in its place. -/
theorem updateFirst_cases (p : Entry → Bool) (g : Entry → Entry) (tc : List Entry) :
    ((∀ e ∈ tc, p e = false) ∧ updateFirst p g tc = tc) ∨
      ∃ l e r, tc = l ++ e :: r ∧ (∀ x ∈ l, p x = false) ∧ p e = true ∧ updateFirst p g tc = l ++ g e :: r := by
  induction tc with
  | nil => exact .inl ⟨by simp, rfl⟩
  | cons a tc ih =>
    by_cases ha : p a = true
    · exact .inr ⟨[], a, tc, rfl, by simp, ha, by simp [updateFirst, ha]⟩
    · have ha' : p a = false := by simpa using ha
      rcases ih with ⟨h, hu⟩ | ⟨l, e, r, rfl, hl, he, hu⟩
      · exact .inl ⟨by simpa [ha'] using h, by simp [updateFirst, ha', hu]⟩
      · exact .inr ⟨a :: l, e, r, rfl, by simpa [ha'] using hl, he, by simp [updateFirst, ha', hu]⟩

/-- The entry removed is of greatest age among those that fit, the earliest among equals. -/
theorem removeOldest_some {p : Entry → Bool} {tc tc' : List Entry} (h : removeOldest p tc = some tc') :
    ∃ l e r, tc = l ++ e :: r ∧ tc' = l ++ r ∧ p e = true ∧ (∀ x ∈ tc, p x = true → x.age ≤ e.age) ∧
      ∀ x ∈ l, p x = true → x.age < e.age := by
  unfold removeOldest at h
  obtain ⟨a, ha, rfl⟩ := Option.map_eq_some_iff.1 h
  rw [List.max?_eq_some_iff] at ha
  have hle : ∀ x ∈ tc, p x = true → x.age ≤ a := fun x hx hp =>
    ha.2 _ (List.mem_map.2 ⟨x, List.mem_filter.2 ⟨hx, hp⟩, rfl⟩)
  obtain ⟨x, hx, hxa⟩ := List.mem_map.1 ha.1
  obtain ⟨hx, hpx⟩ := List.mem_filter.1 hx
  obtain ⟨e, l, r, hl, hpe, htc, hrest⟩ := List.exists_of_eraseP (p := fun e => p e && e.age == a) hx (by simp [hpx, hxa])
  simp only [Bool.and_eq_true, beq_iff_eq] at hpe
  refine ⟨l, e, r, htc, hrest, hpe.1, fun y hy hpy => hpe.2 ▸ hle y hy hpy, fun y hy hpy => ?_⟩
  have h1 := hl y hy
  have h2 := hle y (htc ▸ by simp [hy]) hpy
  simp only [hpy, Bool.true_and, beq_iff_eq] at h1
  omega

/-- Nothing can be removed exactly when nothing fits. -/
theorem removeOldest_none {p : Entry → Bool} {tc : List Entry} : removeOldest p tc = none ↔ ∀ e ∈ tc, p e = false := by
  simp [removeOldest, List.max?_eq_none_iff]

/-- Room is there, or it is made by removing the oldest texture (44_texture_cache.md R361). -/
theorem makeRoom_some {tc tc' : List Entry} (h : makeRoom tc = some tc') :
    (tc.length ≠ Config.maxEntries ∧ tc' = tc) ∨
      (tc.length = Config.maxEntries ∧ ∃ l e r, tc = l ++ e :: r ∧ tc' = l ++ r ∧ e.isRt = false) := by
  unfold makeRoom at h
  split at h
  · obtain ⟨l, e, r, h1, h2, h3, -⟩ := removeOldest_some h
    exact .inr ⟨‹_›, l, e, r, h1, h2, by simpa using h3⟩
  · exact .inl ⟨‹_›, (Option.some.inj h).symm⟩

/-- There is no room exactly in a full cache of render targets (44_texture_cache.md R361). -/
theorem makeRoom_none {tc : List Entry} :
    makeRoom tc = none ↔ tc.length = Config.maxEntries ∧ ∀ e ∈ tc, e.isRt = true := by
  unfold makeRoom
  split <;> simp_all [removeOldest_none]

/-- What a miss can do (44_texture_cache.md R339, R361). -/
theorem fetchMiss_cases {s t : State} {k : Key} {f : Format} {texd alphad clampd : Desc}
    (h : fetchMiss s k f texd alphad clampd = .next t) :
    let req := requiredRect clampd (2 ^ k.tw.toNat) (2 ^ k.th.toNat)
    let e := newTexture k req (decodeTexel s f texd alphad)
    (decodable f texd req.pixels = false ∧ t = s.failed (.cv .oob)) ∨
      (decodable f texd req.pixels = true ∧ makeRoom s.tc = none ∧ t = s.failed .exhausted) ∨
      ∃ tc, decodable f texd req.pixels = true ∧ makeRoom s.tc = some tc ∧
        t = State.succeeded { s with tc := tc ++ [e] } e.output := by
  dsimp only
  unfold fetchMiss at h
  dsimp only at h
  split at h
  · split at h
    · exact .inr (.inl ⟨‹_›, ‹_›, by simpa using h⟩)
    · exact .inr (.inr ⟨_, ‹_›, ‹_›, by simpa using h⟩)
  · rename_i hd
    exact .inl ⟨by rwa [Bool.not_eq_true] at hd, by simpa using h⟩

/-- What a hit can do (44_texture_cache.md R336, R337). -/
theorem fetchHit_cases {s t : State} {e : Entry} {f : Format} {texd alphad clampd : Desc}
    (h : fetchHit s e f texd alphad clampd = .next t) :
    let req := requiredRect clampd e.width e.height
    let ps := (extended e req).pixels.filter fun q => decodedByHit e q.1 q.2
    let e' := hitEntry e req (decodeTexel s f texd alphad)
    (decodable f texd ps = false ∧ t = s.failed (.cv .oob)) ∨
      (decodable f texd ps = true ∧
        t = State.succeeded { s with tc := updateFirst (isTexture e.key) (fun _ => e') s.tc } e'.output) := by
  dsimp only
  unfold fetchHit at h
  dsimp only at h
  split at h
  · exact .inr ⟨‹_›, by simpa using h⟩
  · rename_i hd
    exact .inl ⟨by rwa [Bool.not_eq_true] at hd, by simpa using h⟩

/-- What eviction of render targets leaves is a part of the cache, in order. -/
theorem evictTargets_sublist (n : Nat) (tc : List Entry) : (evictTargets n tc).Sublist tc := by
  induction n generalizing tc with
  | zero => exact List.Sublist.refl _
  | succ n ih =>
    unfold evictTargets
    split
    · split
      · exact List.Sublist.refl _
      · rename_i tc' h
        obtain ⟨l, e, r, rfl, rfl, -⟩ := removeOldest_some h
        exact (ih _).trans (List.Sublist.append_left (List.sublist_cons_self _ _) _)
    · exact List.Sublist.refl _

/-- What a frame boundary leaves is a part of the aged cache, in order (44_texture_cache.md R357). -/
theorem ageAndEvict_sublist (tc : List Entry) : (ageAndEvict tc).Sublist (tc.map Entry.older) :=
  (evictTargets_sublist _ _).trans List.filter_sublist

end Sys2Proof.Machine
end

