-- ==== Sys2Proof/Laws/PerInstr.lean ====
section
/-! SUPPORT. Statements made for every instruction, one lemma for each constructor. -/

namespace Sys2Proof.Laws

/-- The header of an encoded instruction has zeros in `REQ[7:6]` (30_encoding.md R90). -/
def HeaderBits.Statement (i : Instr) : Prop := headerZero (encode i).header = 0

/-- Every request that the encoder writes has zeros there. -/
theorem headerZero_request (op : BitVec 8) (psm : BitVec 6) (o : Operands) :
    headerZero (request op psm o).header = 0 := by
  refine BitVec.eq_of_getLsbD_eq fun i hi => ?_
  have happ : (header op psm).getLsbD (6 + i) = false := by
    show BitVec.getLsbD (w := 8 + 2 + 6) (op ++ (0 : BitVec 2) ++ psm) (6 + i) = false
    have hp : 6 + i - 6 = i := by omega
    rw [BitVec.getLsbD_append, BitVec.getLsbD_append]
    simp [hi, hp]
  simpa [headerZero, request, hi] using happ

theorem HeaderBits.nop : HeaderBits.Statement (.nop) :=
  headerZero_request _ _ _
theorem HeaderBits.vmrd8 (idx : Word32) : HeaderBits.Statement (.vmrd8 idx) :=
  headerZero_request _ _ _
theorem HeaderBits.vmrd16 (idx : Word32) : HeaderBits.Statement (.vmrd16 idx) :=
  headerZero_request _ _ _
theorem HeaderBits.vmrd32 (idx : Word32) : HeaderBits.Statement (.vmrd32 idx) :=
  headerZero_request _ _ _
theorem HeaderBits.vmwr8 (idx v : Word32) : HeaderBits.Statement (.vmwr8 idx v) :=
  headerZero_request _ _ _
theorem HeaderBits.vmwr16 (idx v : Word32) : HeaderBits.Statement (.vmwr16 idx v) :=
  headerZero_request _ _ _
theorem HeaderBits.vmwr32 (idx v : Word32) : HeaderBits.Statement (.vmwr32 idx v) :=
  headerZero_request _ _ _
theorem HeaderBits.exp16 (v : Word32) (alphad : Desc) : HeaderBits.Statement (.exp16 v alphad) :=
  headerZero_request _ _ _
theorem HeaderBits.exp24 (v : Word32) (alphad : Desc) : HeaderBits.Statement (.exp24 v alphad) :=
  headerZero_request _ _ _
theorem HeaderBits.clutwr (texd clutd : Desc) : HeaderBits.Statement (.clutwr texd clutd) :=
  headerZero_request _ _ _
theorem HeaderBits.clutrd32 (texd alphad : Desc) : HeaderBits.Statement (.clutrd32 texd alphad) :=
  headerZero_request _ _ _
theorem HeaderBits.clutinv : HeaderBits.Statement (.clutinv) :=
  headerZero_request _ _ _
theorem HeaderBits.xfermm (xferd : Xferd) : HeaderBits.Statement (.xfermm xferd) :=
  headerZero_request _ _ _
theorem HeaderBits.tcfetch (texd alphad clampd : Desc) : HeaderBits.Statement (.tcfetch texd alphad clampd) :=
  headerZero_request _ _ _
theorem HeaderBits.tcinval (bp : BasePtr) (bw : BufWidth) (psm : BitVec 6) (rect : RectArg) : HeaderBits.Statement (.tcinval bp bw psm rect) :=
  headerZero_request _ _ _
theorem HeaderBits.tcalias (keyTexd keyClampd texd : Desc) : HeaderBits.Statement (.tcalias keyTexd keyClampd texd) :=
  headerZero_request _ _ _
theorem HeaderBits.tcage : HeaderBits.Statement (.tcage) :=
  headerZero_request _ _ _
theorem HeaderBits.tcdrop (keyTexd keyClampd : Desc) (isRt : Bool) : HeaderBits.Statement (.tcdrop keyTexd keyClampd isRt) :=
  headerZero_request _ _ _
theorem HeaderBits.tcpurge : HeaderBits.Statement (.tcpurge) :=
  headerZero_request _ _ _
theorem HeaderBits.tcrt (texd : Desc) (handle : Nat) : HeaderBits.Statement (.tcrt texd handle) :=
  headerZero_request _ _ _
theorem HeaderBits.save : HeaderBits.Statement (.save) :=
  headerZero_request _ _ _
theorem HeaderBits.restore (image : List Byte) : HeaderBits.Statement (.restore image) :=
  headerZero_request _ _ _
theorem HeaderBits.paddrCt32 (x y : CoordArg) (bp : BasePtr) (bw : BufWidth) :
    HeaderBits.Statement (.paddrCt32 x y bp bw) :=
  headerZero_request _ _ _
theorem HeaderBits.paddrCt24 (x y : CoordArg) (bp : BasePtr) (bw : BufWidth) :
    HeaderBits.Statement (.paddrCt24 x y bp bw) :=
  headerZero_request _ _ _
theorem HeaderBits.paddrCt16 (x y : CoordArg) (bp : BasePtr) (bw : BufWidth) :
    HeaderBits.Statement (.paddrCt16 x y bp bw) :=
  headerZero_request _ _ _
theorem HeaderBits.paddrCt16s (x y : CoordArg) (bp : BasePtr) (bw : BufWidth) :
    HeaderBits.Statement (.paddrCt16s x y bp bw) :=
  headerZero_request _ _ _
theorem HeaderBits.paddrT8 (x y : CoordArg) (bp : BasePtr) (bw : BufWidth) :
    HeaderBits.Statement (.paddrT8 x y bp bw) :=
  headerZero_request _ _ _
theorem HeaderBits.paddrT4 (x y : CoordArg) (bp : BasePtr) (bw : BufWidth) :
    HeaderBits.Statement (.paddrT4 x y bp bw) :=
  headerZero_request _ _ _
theorem HeaderBits.paddrT8h (x y : CoordArg) (bp : BasePtr) (bw : BufWidth) :
    HeaderBits.Statement (.paddrT8h x y bp bw) :=
  headerZero_request _ _ _
theorem HeaderBits.paddrT4hl (x y : CoordArg) (bp : BasePtr) (bw : BufWidth) :
    HeaderBits.Statement (.paddrT4hl x y bp bw) :=
  headerZero_request _ _ _
theorem HeaderBits.paddrT4hh (x y : CoordArg) (bp : BasePtr) (bw : BufWidth) :
    HeaderBits.Statement (.paddrT4hh x y bp bw) :=
  headerZero_request _ _ _
theorem HeaderBits.paddrZ32 (x y : CoordArg) (bp : BasePtr) (bw : BufWidth) :
    HeaderBits.Statement (.paddrZ32 x y bp bw) :=
  headerZero_request _ _ _
theorem HeaderBits.paddrZ24 (x y : CoordArg) (bp : BasePtr) (bw : BufWidth) :
    HeaderBits.Statement (.paddrZ24 x y bp bw) :=
  headerZero_request _ _ _
theorem HeaderBits.paddrZ16 (x y : CoordArg) (bp : BasePtr) (bw : BufWidth) :
    HeaderBits.Statement (.paddrZ16 x y bp bw) :=
  headerZero_request _ _ _
theorem HeaderBits.paddrZ16s (x y : CoordArg) (bp : BasePtr) (bw : BufWidth) :
    HeaderBits.Statement (.paddrZ16s x y bp bw) :=
  headerZero_request _ _ _
theorem HeaderBits.baddrCt32 (x y : CoordArg) (bp : BasePtr) (bw : BufWidth) :
    HeaderBits.Statement (.baddrCt32 x y bp bw) :=
  headerZero_request _ _ _
theorem HeaderBits.baddrCt24 (x y : CoordArg) (bp : BasePtr) (bw : BufWidth) :
    HeaderBits.Statement (.baddrCt24 x y bp bw) :=
  headerZero_request _ _ _
theorem HeaderBits.baddrCt16 (x y : CoordArg) (bp : BasePtr) (bw : BufWidth) :
    HeaderBits.Statement (.baddrCt16 x y bp bw) :=
  headerZero_request _ _ _
theorem HeaderBits.baddrCt16s (x y : CoordArg) (bp : BasePtr) (bw : BufWidth) :
    HeaderBits.Statement (.baddrCt16s x y bp bw) :=
  headerZero_request _ _ _
theorem HeaderBits.baddrT8 (x y : CoordArg) (bp : BasePtr) (bw : BufWidth) :
    HeaderBits.Statement (.baddrT8 x y bp bw) :=
  headerZero_request _ _ _
theorem HeaderBits.baddrT4 (x y : CoordArg) (bp : BasePtr) (bw : BufWidth) :
    HeaderBits.Statement (.baddrT4 x y bp bw) :=
  headerZero_request _ _ _
theorem HeaderBits.baddrT8h (x y : CoordArg) (bp : BasePtr) (bw : BufWidth) :
    HeaderBits.Statement (.baddrT8h x y bp bw) :=
  headerZero_request _ _ _
theorem HeaderBits.baddrT4hl (x y : CoordArg) (bp : BasePtr) (bw : BufWidth) :
    HeaderBits.Statement (.baddrT4hl x y bp bw) :=
  headerZero_request _ _ _
theorem HeaderBits.baddrT4hh (x y : CoordArg) (bp : BasePtr) (bw : BufWidth) :
    HeaderBits.Statement (.baddrT4hh x y bp bw) :=
  headerZero_request _ _ _
theorem HeaderBits.baddrZ32 (x y : CoordArg) (bp : BasePtr) (bw : BufWidth) :
    HeaderBits.Statement (.baddrZ32 x y bp bw) :=
  headerZero_request _ _ _
theorem HeaderBits.baddrZ24 (x y : CoordArg) (bp : BasePtr) (bw : BufWidth) :
    HeaderBits.Statement (.baddrZ24 x y bp bw) :=
  headerZero_request _ _ _
theorem HeaderBits.baddrZ16 (x y : CoordArg) (bp : BasePtr) (bw : BufWidth) :
    HeaderBits.Statement (.baddrZ16 x y bp bw) :=
  headerZero_request _ _ _
theorem HeaderBits.baddrZ16s (x y : CoordArg) (bp : BasePtr) (bw : BufWidth) :
    HeaderBits.Statement (.baddrZ16s x y bp bw) :=
  headerZero_request _ _ _
theorem HeaderBits.pgaddrCt32 (x y : CoordArg) (bp : BasePtr) (bw : BufWidth) :
    HeaderBits.Statement (.pgaddrCt32 x y bp bw) :=
  headerZero_request _ _ _
theorem HeaderBits.pgaddrCt24 (x y : CoordArg) (bp : BasePtr) (bw : BufWidth) :
    HeaderBits.Statement (.pgaddrCt24 x y bp bw) :=
  headerZero_request _ _ _
theorem HeaderBits.pgaddrCt16 (x y : CoordArg) (bp : BasePtr) (bw : BufWidth) :
    HeaderBits.Statement (.pgaddrCt16 x y bp bw) :=
  headerZero_request _ _ _
theorem HeaderBits.pgaddrCt16s (x y : CoordArg) (bp : BasePtr) (bw : BufWidth) :
    HeaderBits.Statement (.pgaddrCt16s x y bp bw) :=
  headerZero_request _ _ _
theorem HeaderBits.pgaddrT8 (x y : CoordArg) (bp : BasePtr) (bw : BufWidth) :
    HeaderBits.Statement (.pgaddrT8 x y bp bw) :=
  headerZero_request _ _ _
theorem HeaderBits.pgaddrT4 (x y : CoordArg) (bp : BasePtr) (bw : BufWidth) :
    HeaderBits.Statement (.pgaddrT4 x y bp bw) :=
  headerZero_request _ _ _
theorem HeaderBits.pgaddrT8h (x y : CoordArg) (bp : BasePtr) (bw : BufWidth) :
    HeaderBits.Statement (.pgaddrT8h x y bp bw) :=
  headerZero_request _ _ _
theorem HeaderBits.pgaddrT4hl (x y : CoordArg) (bp : BasePtr) (bw : BufWidth) :
    HeaderBits.Statement (.pgaddrT4hl x y bp bw) :=
  headerZero_request _ _ _
theorem HeaderBits.pgaddrT4hh (x y : CoordArg) (bp : BasePtr) (bw : BufWidth) :
    HeaderBits.Statement (.pgaddrT4hh x y bp bw) :=
  headerZero_request _ _ _
theorem HeaderBits.pgaddrZ32 (x y : CoordArg) (bp : BasePtr) (bw : BufWidth) :
    HeaderBits.Statement (.pgaddrZ32 x y bp bw) :=
  headerZero_request _ _ _
theorem HeaderBits.pgaddrZ24 (x y : CoordArg) (bp : BasePtr) (bw : BufWidth) :
    HeaderBits.Statement (.pgaddrZ24 x y bp bw) :=
  headerZero_request _ _ _
theorem HeaderBits.pgaddrZ16 (x y : CoordArg) (bp : BasePtr) (bw : BufWidth) :
    HeaderBits.Statement (.pgaddrZ16 x y bp bw) :=
  headerZero_request _ _ _
theorem HeaderBits.pgaddrZ16s (x y : CoordArg) (bp : BasePtr) (bw : BufWidth) :
    HeaderBits.Statement (.pgaddrZ16s x y bp bw) :=
  headerZero_request _ _ _
theorem HeaderBits.rdpixCt32 (x y : CoordArg) (bp : BasePtr) (bw : BufWidth) :
    HeaderBits.Statement (.rdpixCt32 x y bp bw) :=
  headerZero_request _ _ _
theorem HeaderBits.rdpixCt24 (x y : CoordArg) (bp : BasePtr) (bw : BufWidth) :
    HeaderBits.Statement (.rdpixCt24 x y bp bw) :=
  headerZero_request _ _ _
theorem HeaderBits.rdpixCt16 (x y : CoordArg) (bp : BasePtr) (bw : BufWidth) :
    HeaderBits.Statement (.rdpixCt16 x y bp bw) :=
  headerZero_request _ _ _
theorem HeaderBits.rdpixCt16s (x y : CoordArg) (bp : BasePtr) (bw : BufWidth) :
    HeaderBits.Statement (.rdpixCt16s x y bp bw) :=
  headerZero_request _ _ _
theorem HeaderBits.rdpixT8 (x y : CoordArg) (bp : BasePtr) (bw : BufWidth) :
    HeaderBits.Statement (.rdpixT8 x y bp bw) :=
  headerZero_request _ _ _
theorem HeaderBits.rdpixT4 (x y : CoordArg) (bp : BasePtr) (bw : BufWidth) :
    HeaderBits.Statement (.rdpixT4 x y bp bw) :=
  headerZero_request _ _ _
theorem HeaderBits.rdpixT8h (x y : CoordArg) (bp : BasePtr) (bw : BufWidth) :
    HeaderBits.Statement (.rdpixT8h x y bp bw) :=
  headerZero_request _ _ _
theorem HeaderBits.rdpixT4hl (x y : CoordArg) (bp : BasePtr) (bw : BufWidth) :
    HeaderBits.Statement (.rdpixT4hl x y bp bw) :=
  headerZero_request _ _ _
theorem HeaderBits.rdpixT4hh (x y : CoordArg) (bp : BasePtr) (bw : BufWidth) :
    HeaderBits.Statement (.rdpixT4hh x y bp bw) :=
  headerZero_request _ _ _
theorem HeaderBits.rdpixZ32 (x y : CoordArg) (bp : BasePtr) (bw : BufWidth) :
    HeaderBits.Statement (.rdpixZ32 x y bp bw) :=
  headerZero_request _ _ _
theorem HeaderBits.rdpixZ24 (x y : CoordArg) (bp : BasePtr) (bw : BufWidth) :
    HeaderBits.Statement (.rdpixZ24 x y bp bw) :=
  headerZero_request _ _ _
theorem HeaderBits.rdpixZ16 (x y : CoordArg) (bp : BasePtr) (bw : BufWidth) :
    HeaderBits.Statement (.rdpixZ16 x y bp bw) :=
  headerZero_request _ _ _
theorem HeaderBits.rdpixZ16s (x y : CoordArg) (bp : BasePtr) (bw : BufWidth) :
    HeaderBits.Statement (.rdpixZ16s x y bp bw) :=
  headerZero_request _ _ _
theorem HeaderBits.wrpixCt32 (x y : CoordArg) (bp : BasePtr) (bw : BufWidth) (v : Word32) :
    HeaderBits.Statement (.wrpixCt32 x y bp bw v) :=
  headerZero_request _ _ _
theorem HeaderBits.wrpixCt24 (x y : CoordArg) (bp : BasePtr) (bw : BufWidth) (v : Word32) :
    HeaderBits.Statement (.wrpixCt24 x y bp bw v) :=
  headerZero_request _ _ _
theorem HeaderBits.wrpixCt16 (x y : CoordArg) (bp : BasePtr) (bw : BufWidth) (v : Word32) :
    HeaderBits.Statement (.wrpixCt16 x y bp bw v) :=
  headerZero_request _ _ _
theorem HeaderBits.wrpixCt16s (x y : CoordArg) (bp : BasePtr) (bw : BufWidth) (v : Word32) :
    HeaderBits.Statement (.wrpixCt16s x y bp bw v) :=
  headerZero_request _ _ _
theorem HeaderBits.wrpixT8 (x y : CoordArg) (bp : BasePtr) (bw : BufWidth) (v : Word32) :
    HeaderBits.Statement (.wrpixT8 x y bp bw v) :=
  headerZero_request _ _ _
theorem HeaderBits.wrpixT4 (x y : CoordArg) (bp : BasePtr) (bw : BufWidth) (v : Word32) :
    HeaderBits.Statement (.wrpixT4 x y bp bw v) :=
  headerZero_request _ _ _
theorem HeaderBits.wrpixT8h (x y : CoordArg) (bp : BasePtr) (bw : BufWidth) (v : Word32) :
    HeaderBits.Statement (.wrpixT8h x y bp bw v) :=
  headerZero_request _ _ _
theorem HeaderBits.wrpixT4hl (x y : CoordArg) (bp : BasePtr) (bw : BufWidth) (v : Word32) :
    HeaderBits.Statement (.wrpixT4hl x y bp bw v) :=
  headerZero_request _ _ _
theorem HeaderBits.wrpixT4hh (x y : CoordArg) (bp : BasePtr) (bw : BufWidth) (v : Word32) :
    HeaderBits.Statement (.wrpixT4hh x y bp bw v) :=
  headerZero_request _ _ _
theorem HeaderBits.wrpixZ32 (x y : CoordArg) (bp : BasePtr) (bw : BufWidth) (v : Word32) :
    HeaderBits.Statement (.wrpixZ32 x y bp bw v) :=
  headerZero_request _ _ _
theorem HeaderBits.wrpixZ24 (x y : CoordArg) (bp : BasePtr) (bw : BufWidth) (v : Word32) :
    HeaderBits.Statement (.wrpixZ24 x y bp bw v) :=
  headerZero_request _ _ _
theorem HeaderBits.wrpixZ16 (x y : CoordArg) (bp : BasePtr) (bw : BufWidth) (v : Word32) :
    HeaderBits.Statement (.wrpixZ16 x y bp bw v) :=
  headerZero_request _ _ _
theorem HeaderBits.wrpixZ16s (x y : CoordArg) (bp : BasePtr) (bw : BufWidth) (v : Word32) :
    HeaderBits.Statement (.wrpixZ16s x y bp bw v) :=
  headerZero_request _ _ _
theorem HeaderBits.rdtexCt32 (x y : CoordArg) (bp : BasePtr) (bw : BufWidth) (alphad : Desc) :
    HeaderBits.Statement (.rdtexCt32 x y bp bw alphad) :=
  headerZero_request _ _ _
theorem HeaderBits.rdtexCt24 (x y : CoordArg) (bp : BasePtr) (bw : BufWidth) (alphad : Desc) :
    HeaderBits.Statement (.rdtexCt24 x y bp bw alphad) :=
  headerZero_request _ _ _
theorem HeaderBits.rdtexCt16 (x y : CoordArg) (bp : BasePtr) (bw : BufWidth) (alphad : Desc) :
    HeaderBits.Statement (.rdtexCt16 x y bp bw alphad) :=
  headerZero_request _ _ _
theorem HeaderBits.rdtexCt16s (x y : CoordArg) (bp : BasePtr) (bw : BufWidth) (alphad : Desc) :
    HeaderBits.Statement (.rdtexCt16s x y bp bw alphad) :=
  headerZero_request _ _ _
theorem HeaderBits.rdtexT8 (x y : CoordArg) (bp : BasePtr) (bw : BufWidth) (alphad : Desc) :
    HeaderBits.Statement (.rdtexT8 x y bp bw alphad) :=
  headerZero_request _ _ _
theorem HeaderBits.rdtexT4 (x y : CoordArg) (bp : BasePtr) (bw : BufWidth) (alphad : Desc) :
    HeaderBits.Statement (.rdtexT4 x y bp bw alphad) :=
  headerZero_request _ _ _
theorem HeaderBits.rdtexT8h (x y : CoordArg) (bp : BasePtr) (bw : BufWidth) (alphad : Desc) :
    HeaderBits.Statement (.rdtexT8h x y bp bw alphad) :=
  headerZero_request _ _ _
theorem HeaderBits.rdtexT4hl (x y : CoordArg) (bp : BasePtr) (bw : BufWidth) (alphad : Desc) :
    HeaderBits.Statement (.rdtexT4hl x y bp bw alphad) :=
  headerZero_request _ _ _
theorem HeaderBits.rdtexT4hh (x y : CoordArg) (bp : BasePtr) (bw : BufWidth) (alphad : Desc) :
    HeaderBits.Statement (.rdtexT4hh x y bp bw alphad) :=
  headerZero_request _ _ _
theorem HeaderBits.rdtexZ32 (x y : CoordArg) (bp : BasePtr) (bw : BufWidth) (alphad : Desc) :
    HeaderBits.Statement (.rdtexZ32 x y bp bw alphad) :=
  headerZero_request _ _ _
theorem HeaderBits.rdtexZ24 (x y : CoordArg) (bp : BasePtr) (bw : BufWidth) (alphad : Desc) :
    HeaderBits.Statement (.rdtexZ24 x y bp bw alphad) :=
  headerZero_request _ _ _
theorem HeaderBits.rdtexZ16 (x y : CoordArg) (bp : BasePtr) (bw : BufWidth) (alphad : Desc) :
    HeaderBits.Statement (.rdtexZ16 x y bp bw alphad) :=
  headerZero_request _ _ _
theorem HeaderBits.rdtexZ16s (x y : CoordArg) (bp : BasePtr) (bw : BufWidth) (alphad : Desc) :
    HeaderBits.Statement (.rdtexZ16s x y bp bw alphad) :=
  headerZero_request _ _ _
theorem HeaderBits.swzinCt32 (xferd : Xferd) (resume : Bool) (src : List Byte) :
    HeaderBits.Statement (.swzinCt32 xferd resume src) :=
  headerZero_request _ _ _
theorem HeaderBits.swzinCt24 (xferd : Xferd) (resume : Bool) (src : List Byte) :
    HeaderBits.Statement (.swzinCt24 xferd resume src) :=
  headerZero_request _ _ _
theorem HeaderBits.swzinCt16 (xferd : Xferd) (resume : Bool) (src : List Byte) :
    HeaderBits.Statement (.swzinCt16 xferd resume src) :=
  headerZero_request _ _ _
theorem HeaderBits.swzinCt16s (xferd : Xferd) (resume : Bool) (src : List Byte) :
    HeaderBits.Statement (.swzinCt16s xferd resume src) :=
  headerZero_request _ _ _
theorem HeaderBits.swzinT8 (xferd : Xferd) (resume : Bool) (src : List Byte) :
    HeaderBits.Statement (.swzinT8 xferd resume src) :=
  headerZero_request _ _ _
theorem HeaderBits.swzinT4 (xferd : Xferd) (resume : Bool) (src : List Byte) :
    HeaderBits.Statement (.swzinT4 xferd resume src) :=
  headerZero_request _ _ _
theorem HeaderBits.swzinT8h (xferd : Xferd) (resume : Bool) (src : List Byte) :
    HeaderBits.Statement (.swzinT8h xferd resume src) :=
  headerZero_request _ _ _
theorem HeaderBits.swzinT4hl (xferd : Xferd) (resume : Bool) (src : List Byte) :
    HeaderBits.Statement (.swzinT4hl xferd resume src) :=
  headerZero_request _ _ _
theorem HeaderBits.swzinT4hh (xferd : Xferd) (resume : Bool) (src : List Byte) :
    HeaderBits.Statement (.swzinT4hh xferd resume src) :=
  headerZero_request _ _ _
theorem HeaderBits.swzinZ32 (xferd : Xferd) (resume : Bool) (src : List Byte) :
    HeaderBits.Statement (.swzinZ32 xferd resume src) :=
  headerZero_request _ _ _
theorem HeaderBits.swzinZ24 (xferd : Xferd) (resume : Bool) (src : List Byte) :
    HeaderBits.Statement (.swzinZ24 xferd resume src) :=
  headerZero_request _ _ _
theorem HeaderBits.swzinZ16 (xferd : Xferd) (resume : Bool) (src : List Byte) :
    HeaderBits.Statement (.swzinZ16 xferd resume src) :=
  headerZero_request _ _ _
theorem HeaderBits.swzinZ16s (xferd : Xferd) (resume : Bool) (src : List Byte) :
    HeaderBits.Statement (.swzinZ16s xferd resume src) :=
  headerZero_request _ _ _
theorem HeaderBits.unswzCt32 (rect : RectArg) (bp : BasePtr) (bw : BufWidth) (mode : BitVec 2) (alphad : Desc) (pitch : Word32) :
    HeaderBits.Statement (.unswzCt32 rect bp bw mode alphad pitch) :=
  headerZero_request _ _ _
theorem HeaderBits.unswzCt24 (rect : RectArg) (bp : BasePtr) (bw : BufWidth) (mode : BitVec 2) (alphad : Desc) (pitch : Word32) :
    HeaderBits.Statement (.unswzCt24 rect bp bw mode alphad pitch) :=
  headerZero_request _ _ _
theorem HeaderBits.unswzCt16 (rect : RectArg) (bp : BasePtr) (bw : BufWidth) (mode : BitVec 2) (alphad : Desc) (pitch : Word32) :
    HeaderBits.Statement (.unswzCt16 rect bp bw mode alphad pitch) :=
  headerZero_request _ _ _
theorem HeaderBits.unswzCt16s (rect : RectArg) (bp : BasePtr) (bw : BufWidth) (mode : BitVec 2) (alphad : Desc) (pitch : Word32) :
    HeaderBits.Statement (.unswzCt16s rect bp bw mode alphad pitch) :=
  headerZero_request _ _ _
theorem HeaderBits.unswzT8 (rect : RectArg) (bp : BasePtr) (bw : BufWidth) (mode : BitVec 2) (alphad : Desc) (pitch : Word32) :
    HeaderBits.Statement (.unswzT8 rect bp bw mode alphad pitch) :=
  headerZero_request _ _ _
theorem HeaderBits.unswzT4 (rect : RectArg) (bp : BasePtr) (bw : BufWidth) (mode : BitVec 2) (alphad : Desc) (pitch : Word32) :
    HeaderBits.Statement (.unswzT4 rect bp bw mode alphad pitch) :=
  headerZero_request _ _ _
theorem HeaderBits.unswzT8h (rect : RectArg) (bp : BasePtr) (bw : BufWidth) (mode : BitVec 2) (alphad : Desc) (pitch : Word32) :
    HeaderBits.Statement (.unswzT8h rect bp bw mode alphad pitch) :=
  headerZero_request _ _ _
theorem HeaderBits.unswzT4hl (rect : RectArg) (bp : BasePtr) (bw : BufWidth) (mode : BitVec 2) (alphad : Desc) (pitch : Word32) :
    HeaderBits.Statement (.unswzT4hl rect bp bw mode alphad pitch) :=
  headerZero_request _ _ _
theorem HeaderBits.unswzT4hh (rect : RectArg) (bp : BasePtr) (bw : BufWidth) (mode : BitVec 2) (alphad : Desc) (pitch : Word32) :
    HeaderBits.Statement (.unswzT4hh rect bp bw mode alphad pitch) :=
  headerZero_request _ _ _
theorem HeaderBits.unswzZ32 (rect : RectArg) (bp : BasePtr) (bw : BufWidth) (mode : BitVec 2) (alphad : Desc) (pitch : Word32) :
    HeaderBits.Statement (.unswzZ32 rect bp bw mode alphad pitch) :=
  headerZero_request _ _ _
theorem HeaderBits.unswzZ24 (rect : RectArg) (bp : BasePtr) (bw : BufWidth) (mode : BitVec 2) (alphad : Desc) (pitch : Word32) :
    HeaderBits.Statement (.unswzZ24 rect bp bw mode alphad pitch) :=
  headerZero_request _ _ _
theorem HeaderBits.unswzZ16 (rect : RectArg) (bp : BasePtr) (bw : BufWidth) (mode : BitVec 2) (alphad : Desc) (pitch : Word32) :
    HeaderBits.Statement (.unswzZ16 rect bp bw mode alphad pitch) :=
  headerZero_request _ _ _
theorem HeaderBits.unswzZ16s (rect : RectArg) (bp : BasePtr) (bw : BufWidth) (mode : BitVec 2) (alphad : Desc) (pitch : Word32) :
    HeaderBits.Statement (.unswzZ16s rect bp bw mode alphad pitch) :=
  headerZero_request _ _ _

end Sys2Proof.Laws
end

