-- ==== Sys2Proof/Tests/Slice0.lean ====
section
/-! SUPPORT. Tests. The expected values are the spec's: the listings of 40_address_translator.md section 3, the worked
vectors of 95_test_vectors.md, the headers of 30_encoding.md. After them, for each statement with hypotheses, a witness:
a theorem `wit_<statement>` that shows states and operands meeting them, each clause at a boundary of its range. -/

namespace Sys2Proof.Tests
open Sys2Proof Sys2Proof.Machine

set_option Elab.async false

/-! ### Helpers -/

/-- STATUS of the next state. -/
def statusOf : Answer State → Option (BitVec 16)
  | .next t => some t.status
  | _ => none

/-- The result in the next state. -/
def resultOf : Answer State → Result
  | .next t => t.result
  | _ => .none

/-- The next state. -/
def after : Answer State → State
  | .next t => t
  | _ => State.reset

/-- An answer with a STATUS is the next state. -/
theorem next_after {o : Answer State} {c : BitVec 16} (h : statusOf o = some c) :
    o = .next (after o) ∧ (after o).status = c := by
  cases o <;> simp_all [statusOf, after]

/-- The thirteen formats, in the order of 10_state.md R26. -/
def formats : List Format :=
  [.ct32, .ct24, .ct16, .ct16s, .t8, .t4, .t8h, .t4hl, .t4hh, .z32, .z24, .z16, .z16s]

/-- A table's rows. -/
def listing (t : Nat → Nat → Nat) (rows columns : Nat) : List (List Nat) :=
  (List.range rows).map fun j => (List.range columns).map (t j)

/-- Each opcode-table word decodes to the instruction beside it. -/
abbrev decodesTo (l : List (Nat × Instr)) : Prop := ∀ p ∈ l, decodeTableWord 16 p.1 = some p.2

/-- A TEXD word (30_encoding.md R101). -/
def texd (tbp tbw psm tw th : Nat) : Desc :=
  BitVec.ofNat 64 (tbp + tbw * 2 ^ 14 + psm * 2 ^ 20 + tw * 2 ^ 26 + th * 2 ^ 30)

/-- The palette part of a TEXD word (30_encoding.md R101). -/
def pal (cbp cpsm csm csa : Nat) : Desc :=
  BitVec.ofNat 64 (cbp * 2 ^ 37 + cpsm * 2 ^ 51 + csm * 2 ^ 55 + csa * 2 ^ 56)

/-- The destination half of an XFERD with its size (30_encoding.md R104). -/
def dest (dbp dbw dpsm x y w h : Nat) : Xferd :=
  ⟨BitVec.ofNat 64 (dbp * 2 ^ 32 + dbw * 2 ^ 48 + dpsm * 2 ^ 56), BitVec.ofNat 64 (x * 2 ^ 32 + y * 2 ^ 48),
    BitVec.ofNat 64 (w + h * 2 ^ 32), 0⟩

/-- The state with these bytes listed. -/
def mem (m : Memory) : State := { State.reset with mem := m }

/-! ### Well-formedness -/

/-- A stream longer than its length operand can count is refused. -/
theorem test_wf_refuses_long_stream (f : Format) (d : Xferd) (r : Bool) :
    (Instr.swzinOf f d r (List.replicate (2 ^ 32) 0)).wf = false := by
  rw [wf_swzinOf, srcFits, List.length_replicate]; decide

/-- The longest stream that it can count is not. -/
theorem test_wf_takes_longest_stream (f : Format) (d : Xferd) (r : Bool) :
    (Instr.swzinOf f d r (List.replicate (2 ^ 32 - 1) 0)).wf = true := by
  rw [wf_swzinOf, srcFits, List.length_replicate]; decide

/-! ### The tables -/

/-- The listing of 40_address_translator.md R136. -/
theorem test_blk32 : listing (blkEntry .blk32) 4 8 = [
      [0, 1, 4, 5, 16, 17, 20, 21],
      [2, 3, 6, 7, 18, 19, 22, 23],
      [8, 9, 12, 13, 24, 25, 28, 29],
      [10, 11, 14, 15, 26, 27, 30, 31]] := by decide +kernel

/-- The listing of 40_address_translator.md R137. -/
theorem test_blk32z : listing (blkEntry .blk32z) 4 8 = [
      [24, 25, 28, 29, 8, 9, 12, 13],
      [26, 27, 30, 31, 10, 11, 14, 15],
      [16, 17, 20, 21, 0, 1, 4, 5],
      [18, 19, 22, 23, 2, 3, 6, 7]] := by decide +kernel

/-- The listing of 40_address_translator.md R138. -/
theorem test_blk16 : listing (blkEntry .blk16) 8 4 = [
      [0, 2, 8, 10],
      [1, 3, 9, 11],
      [4, 6, 12, 14],
      [5, 7, 13, 15],
      [16, 18, 24, 26],
      [17, 19, 25, 27],
      [20, 22, 28, 30],
      [21, 23, 29, 31]] := by decide +kernel

/-- The listing of 40_address_translator.md R139. -/
theorem test_blk16s : listing (blkEntry .blk16s) 8 4 = [
      [0, 2, 16, 18],
      [1, 3, 17, 19],
      [8, 10, 24, 26],
      [9, 11, 25, 27],
      [4, 6, 20, 22],
      [5, 7, 21, 23],
      [12, 14, 28, 30],
      [13, 15, 29, 31]] := by decide +kernel

/-- The listing of 40_address_translator.md R140. -/
theorem test_blk16z : listing (blkEntry .blk16z) 8 4 = [
      [24, 26, 16, 18],
      [25, 27, 17, 19],
      [28, 30, 20, 22],
      [29, 31, 21, 23],
      [8, 10, 0, 2],
      [9, 11, 1, 3],
      [12, 14, 4, 6],
      [13, 15, 5, 7]] := by decide +kernel

/-- The listing of 40_address_translator.md R141. -/
theorem test_blk16sz : listing (blkEntry .blk16sz) 8 4 = [
      [24, 26, 8, 10],
      [25, 27, 9, 11],
      [16, 18, 0, 2],
      [17, 19, 1, 3],
      [28, 30, 12, 14],
      [29, 31, 13, 15],
      [20, 22, 4, 6],
      [21, 23, 5, 7]] := by decide +kernel

/-- The listing of 40_address_translator.md R142. -/
theorem test_col32 : listing (colEntry .col32) 8 8 = [
      [0, 1, 4, 5, 8, 9, 12, 13],
      [2, 3, 6, 7, 10, 11, 14, 15],
      [16, 17, 20, 21, 24, 25, 28, 29],
      [18, 19, 22, 23, 26, 27, 30, 31],
      [32, 33, 36, 37, 40, 41, 44, 45],
      [34, 35, 38, 39, 42, 43, 46, 47],
      [48, 49, 52, 53, 56, 57, 60, 61],
      [50, 51, 54, 55, 58, 59, 62, 63]] := by decide +kernel

/-- The listing of 40_address_translator.md R143. -/
theorem test_col16 : listing (colEntry .col16) 8 16 = [
      [0, 2, 8, 10, 16, 18, 24, 26, 1, 3, 9, 11, 17, 19, 25, 27],
      [4, 6, 12, 14, 20, 22, 28, 30, 5, 7, 13, 15, 21, 23, 29, 31],
      [32, 34, 40, 42, 48, 50, 56, 58, 33, 35, 41, 43, 49, 51, 57, 59],
      [36, 38, 44, 46, 52, 54, 60, 62, 37, 39, 45, 47, 53, 55, 61, 63],
      [64, 66, 72, 74, 80, 82, 88, 90, 65, 67, 73, 75, 81, 83, 89, 91],
      [68, 70, 76, 78, 84, 86, 92, 94, 69, 71, 77, 79, 85, 87, 93, 95],
      [96, 98, 104, 106, 112, 114, 120, 122, 97, 99, 105, 107, 113, 115, 121, 123],
      [100, 102, 108, 110, 116, 118, 124, 126, 101, 103, 109, 111, 117, 119, 125, 127]] := by decide +kernel

/-- The listing of 40_address_translator.md R144. -/
theorem test_col8 : listing (colEntry .col8) 16 16 = [
      [0, 4, 16, 20, 32, 36, 48, 52, 2, 6, 18, 22, 34, 38, 50, 54],
      [8, 12, 24, 28, 40, 44, 56, 60, 10, 14, 26, 30, 42, 46, 58, 62],
      [33, 37, 49, 53, 1, 5, 17, 21, 35, 39, 51, 55, 3, 7, 19, 23],
      [41, 45, 57, 61, 9, 13, 25, 29, 43, 47, 59, 63, 11, 15, 27, 31],
      [96, 100, 112, 116, 64, 68, 80, 84, 98, 102, 114, 118, 66, 70, 82, 86],
      [104, 108, 120, 124, 72, 76, 88, 92, 106, 110, 122, 126, 74, 78, 90, 94],
      [65, 69, 81, 85, 97, 101, 113, 117, 67, 71, 83, 87, 99, 103, 115, 119],
      [73, 77, 89, 93, 105, 109, 121, 125, 75, 79, 91, 95, 107, 111, 123, 127],
      [128, 132, 144, 148, 160, 164, 176, 180, 130, 134, 146, 150, 162, 166, 178, 182],
      [136, 140, 152, 156, 168, 172, 184, 188, 138, 142, 154, 158, 170, 174, 186, 190],
      [161, 165, 177, 181, 129, 133, 145, 149, 163, 167, 179, 183, 131, 135, 147, 151],
      [169, 173, 185, 189, 137, 141, 153, 157, 171, 175, 187, 191, 139, 143, 155, 159],
      [224, 228, 240, 244, 192, 196, 208, 212, 226, 230, 242, 246, 194, 198, 210, 214],
      [232, 236, 248, 252, 200, 204, 216, 220, 234, 238, 250, 254, 202, 206, 218, 222],
      [193, 197, 209, 213, 225, 229, 241, 245, 195, 199, 211, 215, 227, 231, 243, 247],
      [201, 205, 217, 221, 233, 237, 249, 253, 203, 207, 219, 223, 235, 239, 251, 255]] := by decide +kernel

/-- The listing of 40_address_translator.md R145. -/
theorem test_col4 : listing (colEntry .col4) 16 32 = [
      [0, 8, 32, 40, 64, 72, 96, 104, 2, 10, 34, 42, 66, 74, 98, 106, 4, 12, 36, 44, 68, 76, 100, 108, 6, 14, 38, 46,
       70, 78, 102, 110],
      [16, 24, 48, 56, 80, 88, 112, 120, 18, 26, 50, 58, 82, 90, 114, 122, 20, 28, 52, 60, 84, 92, 116, 124, 22, 30,
       54, 62, 86, 94, 118, 126],
      [65, 73, 97, 105, 1, 9, 33, 41, 67, 75, 99, 107, 3, 11, 35, 43, 69, 77, 101, 109, 5, 13, 37, 45, 71, 79, 103,
       111, 7, 15, 39, 47],
      [81, 89, 113, 121, 17, 25, 49, 57, 83, 91, 115, 123, 19, 27, 51, 59, 85, 93, 117, 125, 21, 29, 53, 61, 87, 95,
       119, 127, 23, 31, 55, 63],
      [192, 200, 224, 232, 128, 136, 160, 168, 194, 202, 226, 234, 130, 138, 162, 170, 196, 204, 228, 236, 132, 140,
       164, 172, 198, 206, 230, 238, 134, 142, 166, 174],
      [208, 216, 240, 248, 144, 152, 176, 184, 210, 218, 242, 250, 146, 154, 178, 186, 212, 220, 244, 252, 148, 156,
       180, 188, 214, 222, 246, 254, 150, 158, 182, 190],
      [129, 137, 161, 169, 193, 201, 225, 233, 131, 139, 163, 171, 195, 203, 227, 235, 133, 141, 165, 173, 197, 205,
       229, 237, 135, 143, 167, 175, 199, 207, 231, 239],
      [145, 153, 177, 185, 209, 217, 241, 249, 147, 155, 179, 187, 211, 219, 243, 251, 149, 157, 181, 189, 213, 221,
       245, 253, 151, 159, 183, 191, 215, 223, 247, 255],
      [256, 264, 288, 296, 320, 328, 352, 360, 258, 266, 290, 298, 322, 330, 354, 362, 260, 268, 292, 300, 324, 332,
       356, 364, 262, 270, 294, 302, 326, 334, 358, 366],
      [272, 280, 304, 312, 336, 344, 368, 376, 274, 282, 306, 314, 338, 346, 370, 378, 276, 284, 308, 316, 340, 348,
       372, 380, 278, 286, 310, 318, 342, 350, 374, 382],
      [321, 329, 353, 361, 257, 265, 289, 297, 323, 331, 355, 363, 259, 267, 291, 299, 325, 333, 357, 365, 261, 269,
       293, 301, 327, 335, 359, 367, 263, 271, 295, 303],
      [337, 345, 369, 377, 273, 281, 305, 313, 339, 347, 371, 379, 275, 283, 307, 315, 341, 349, 373, 381, 277, 285,
       309, 317, 343, 351, 375, 383, 279, 287, 311, 319],
      [448, 456, 480, 488, 384, 392, 416, 424, 450, 458, 482, 490, 386, 394, 418, 426, 452, 460, 484, 492, 388, 396,
       420, 428, 454, 462, 486, 494, 390, 398, 422, 430],
      [464, 472, 496, 504, 400, 408, 432, 440, 466, 474, 498, 506, 402, 410, 434, 442, 468, 476, 500, 508, 404, 412,
       436, 444, 470, 478, 502, 510, 406, 414, 438, 446],
      [385, 393, 417, 425, 449, 457, 481, 489, 387, 395, 419, 427, 451, 459, 483, 491, 389, 397, 421, 429, 453, 461,
       485, 493, 391, 399, 423, 431, 455, 463, 487, 495],
      [401, 409, 433, 441, 465, 473, 497, 505, 403, 411, 435, 443, 467, 475, 499, 507, 405, 413, 437, 445, 469, 477,
       501, 509, 407, 415, 439, 447, 471, 479, 503, 511]] := by decide +kernel


/-! ### Decoding: every row of the opcode table, the words as 30_encoding.md R93 and R95 give them -/

theorem test_decode_paddr : decodesTo [
    (0x0100, .paddrCt32 0 0 0 0),
    (0x0101, .paddrCt24 0 0 0 0),
    (0x0102, .paddrCt16 0 0 0 0),
    (0x010A, .paddrCt16s 0 0 0 0),
    (0x0113, .paddrT8 0 0 0 0),
    (0x0114, .paddrT4 0 0 0 0),
    (0x011B, .paddrT8h 0 0 0 0),
    (0x0124, .paddrT4hl 0 0 0 0),
    (0x012C, .paddrT4hh 0 0 0 0),
    (0x0130, .paddrZ32 0 0 0 0),
    (0x0131, .paddrZ24 0 0 0 0),
    (0x0132, .paddrZ16 0 0 0 0),
    (0x013A, .paddrZ16s 0 0 0 0)] := by decide +kernel

theorem test_decode_baddr : decodesTo [
    (0x0200, .baddrCt32 0 0 0 0),
    (0x0201, .baddrCt24 0 0 0 0),
    (0x0202, .baddrCt16 0 0 0 0),
    (0x020A, .baddrCt16s 0 0 0 0),
    (0x0213, .baddrT8 0 0 0 0),
    (0x0214, .baddrT4 0 0 0 0),
    (0x021B, .baddrT8h 0 0 0 0),
    (0x0224, .baddrT4hl 0 0 0 0),
    (0x022C, .baddrT4hh 0 0 0 0),
    (0x0230, .baddrZ32 0 0 0 0),
    (0x0231, .baddrZ24 0 0 0 0),
    (0x0232, .baddrZ16 0 0 0 0),
    (0x023A, .baddrZ16s 0 0 0 0)] := by decide +kernel

theorem test_decode_pgaddr : decodesTo [
    (0x0300, .pgaddrCt32 0 0 0 0),
    (0x0301, .pgaddrCt24 0 0 0 0),
    (0x0302, .pgaddrCt16 0 0 0 0),
    (0x030A, .pgaddrCt16s 0 0 0 0),
    (0x0313, .pgaddrT8 0 0 0 0),
    (0x0314, .pgaddrT4 0 0 0 0),
    (0x031B, .pgaddrT8h 0 0 0 0),
    (0x0324, .pgaddrT4hl 0 0 0 0),
    (0x032C, .pgaddrT4hh 0 0 0 0),
    (0x0330, .pgaddrZ32 0 0 0 0),
    (0x0331, .pgaddrZ24 0 0 0 0),
    (0x0332, .pgaddrZ16 0 0 0 0),
    (0x033A, .pgaddrZ16s 0 0 0 0)] := by decide +kernel

theorem test_decode_rdpix : decodesTo [
    (0x1000, .rdpixCt32 0 0 0 0),
    (0x1001, .rdpixCt24 0 0 0 0),
    (0x1002, .rdpixCt16 0 0 0 0),
    (0x100A, .rdpixCt16s 0 0 0 0),
    (0x1013, .rdpixT8 0 0 0 0),
    (0x1014, .rdpixT4 0 0 0 0),
    (0x101B, .rdpixT8h 0 0 0 0),
    (0x1024, .rdpixT4hl 0 0 0 0),
    (0x102C, .rdpixT4hh 0 0 0 0),
    (0x1030, .rdpixZ32 0 0 0 0),
    (0x1031, .rdpixZ24 0 0 0 0),
    (0x1032, .rdpixZ16 0 0 0 0),
    (0x103A, .rdpixZ16s 0 0 0 0)] := by decide +kernel

theorem test_decode_wrpix : decodesTo [
    (0x1100, .wrpixCt32 0 0 0 0 0),
    (0x1101, .wrpixCt24 0 0 0 0 0),
    (0x1102, .wrpixCt16 0 0 0 0 0),
    (0x110A, .wrpixCt16s 0 0 0 0 0),
    (0x1113, .wrpixT8 0 0 0 0 0),
    (0x1114, .wrpixT4 0 0 0 0 0),
    (0x111B, .wrpixT8h 0 0 0 0 0),
    (0x1124, .wrpixT4hl 0 0 0 0 0),
    (0x112C, .wrpixT4hh 0 0 0 0 0),
    (0x1130, .wrpixZ32 0 0 0 0 0),
    (0x1131, .wrpixZ24 0 0 0 0 0),
    (0x1132, .wrpixZ16 0 0 0 0 0),
    (0x113A, .wrpixZ16s 0 0 0 0 0)] := by decide +kernel

theorem test_decode_rdtex : decodesTo [
    (0x1200, .rdtexCt32 0 0 0 0 0),
    (0x1201, .rdtexCt24 0 0 0 0 0),
    (0x1202, .rdtexCt16 0 0 0 0 0),
    (0x120A, .rdtexCt16s 0 0 0 0 0),
    (0x1213, .rdtexT8 0 0 0 0 0),
    (0x1214, .rdtexT4 0 0 0 0 0),
    (0x121B, .rdtexT8h 0 0 0 0 0),
    (0x1224, .rdtexT4hl 0 0 0 0 0),
    (0x122C, .rdtexT4hh 0 0 0 0 0),
    (0x1230, .rdtexZ32 0 0 0 0 0),
    (0x1231, .rdtexZ24 0 0 0 0 0),
    (0x1232, .rdtexZ16 0 0 0 0 0),
    (0x123A, .rdtexZ16s 0 0 0 0 0)] := by decide +kernel

theorem test_decode_swzin : decodesTo [
    (0x3000, .swzinCt32 ⟨0, 0, 0, 0⟩ false []),
    (0x3001, .swzinCt24 ⟨0, 0, 0, 0⟩ false []),
    (0x3002, .swzinCt16 ⟨0, 0, 0, 0⟩ false []),
    (0x300A, .swzinCt16s ⟨0, 0, 0, 0⟩ false []),
    (0x3013, .swzinT8 ⟨0, 0, 0, 0⟩ false []),
    (0x3014, .swzinT4 ⟨0, 0, 0, 0⟩ false []),
    (0x301B, .swzinT8h ⟨0, 0, 0, 0⟩ false []),
    (0x3024, .swzinT4hl ⟨0, 0, 0, 0⟩ false []),
    (0x302C, .swzinT4hh ⟨0, 0, 0, 0⟩ false []),
    (0x3030, .swzinZ32 ⟨0, 0, 0, 0⟩ false []),
    (0x3031, .swzinZ24 ⟨0, 0, 0, 0⟩ false []),
    (0x3032, .swzinZ16 ⟨0, 0, 0, 0⟩ false []),
    (0x303A, .swzinZ16s ⟨0, 0, 0, 0⟩ false [])] := by decide +kernel

theorem test_decode_unswz : decodesTo [
    (0x3100, .unswzCt32 ⟨0, 0, 0, 0⟩ 0 0 0 0 0),
    (0x3101, .unswzCt24 ⟨0, 0, 0, 0⟩ 0 0 0 0 0),
    (0x3102, .unswzCt16 ⟨0, 0, 0, 0⟩ 0 0 0 0 0),
    (0x310A, .unswzCt16s ⟨0, 0, 0, 0⟩ 0 0 0 0 0),
    (0x3113, .unswzT8 ⟨0, 0, 0, 0⟩ 0 0 0 0 0),
    (0x3114, .unswzT4 ⟨0, 0, 0, 0⟩ 0 0 0 0 0),
    (0x311B, .unswzT8h ⟨0, 0, 0, 0⟩ 0 0 0 0 0),
    (0x3124, .unswzT4hl ⟨0, 0, 0, 0⟩ 0 0 0 0 0),
    (0x312C, .unswzT4hh ⟨0, 0, 0, 0⟩ 0 0 0 0 0),
    (0x3130, .unswzZ32 ⟨0, 0, 0, 0⟩ 0 0 0 0 0),
    (0x3131, .unswzZ24 ⟨0, 0, 0, 0⟩ 0 0 0 0 0),
    (0x3132, .unswzZ16 ⟨0, 0, 0, 0⟩ 0 0 0 0 0),
    (0x313A, .unswzZ16s ⟨0, 0, 0, 0⟩ 0 0 0 0 0)] := by decide +kernel

theorem test_decode_plain : decodesTo [
    (0x0000, .nop),
    (0x0800, .vmrd8 0),
    (0x0900, .vmrd16 0),
    (0x0A00, .vmrd32 0),
    (0x0C00, .vmwr8 0 0),
    (0x0D00, .vmwr16 0 0),
    (0x0E00, .vmwr32 0 0),
    (0x2000, .exp16 0 0),
    (0x2100, .exp24 0 0),
    (0x2800, .clutwr 0 0),
    (0x2900, .clutrd32 0 0),
    (0x2A00, .clutinv),
    (0x3200, .xfermm ⟨0, 0, 0, 0⟩),
    (0x4000, .tcfetch 0 0 0),
    (0x4100, .tcinval 0 0 0 ⟨0, 0, 0, 0⟩),
    (0x4200, .tcalias 0 0 0),
    (0x4300, .tcage),
    (0x4400, .tcdrop 0 0 false),
    (0x4500, .tcpurge),
    (0x4600, .tcrt 0 0),
    (0x5000, .save),
    (0x5100, .restore [])] := by decide +kernel


/-- V9: a refused header ends in BAD_OP or BAD_PSM (95_test_vectors.md). -/
theorem test_refused_headers :
    ([0x0001, 0x0103, 0x0140, 0x01C3, 0x0400, 0x0B00, 0x1133, 0x1300, 0x2002, 0x3213, 0x4102, 0x4700, 0xFF00].map fun w =>
      statusOf (step (State.reset.withFetchWord 16 w))) =
    [0x0101, 0x0102, 0x0101, 0x0101, 0x0101, 0x0101, 0x0102, 0x0101, 0x0101, 0x0101, 0x0101, 0x0101, 0x0101].map some := by
  decide +kernel

/-- The operands reach their places: `SWZIN.T4HL` takes `length` bytes of `src`, as 43_swizzle_engine.md R290 says. -/
theorem test_decode_operands (o : Operands) :
    decode ⟨0x3024, { o with src := [1, 2, 3], length := 2, resume := true }, []⟩ =
      .ok (.swzinT4hl o.xferd true [1, 2]) ∧
    decode ⟨0x4100, o, []⟩ = .ok (.tcinval o.bp o.bw o.psm o.rect) := by
  constructor <;>
    simp [decode, headerOp, headerZero, headerPsm, formatOpOf, plainInstr, formatOf, FormatOp.instr, Operands.stream]; rfl

/-! ### One step each, against 95_test_vectors.md -/

/-- V1, the column `(100, 70, 64, 2)`. -/
theorem test_paddr : (formats.map fun f => resultOf (exec (.paddrOf f 100 70 64 2) State.reset)) =
    [15416, 15416, 21616, 22640, 29793, 46273, 15416, 15416, 15416, 14904, 14904, 22640, 21616].map .index := by
  decide +kernel

/-- V1, the column `(100, 70, 64, 2)`. -/
theorem test_baddr : (formats.map fun f => resultOf (exec (.baddrOf f 100 70 64 2) State.reset)) =
    [240, 240, 168, 176, 116, 90, 240, 240, 240, 232, 232, 176, 168].map .index := by
  decide +kernel

/-- V1, the column `(100, 70, 64, 2)`. -/
theorem test_pgaddr : (formats.map fun f => resultOf (exec (.pgaddrOf f 100 70 64 2) State.reset)) =
    [7, 7, 5, 5, 3, 2, 7, 7, 7, 7, 7, 5, 5].map .index := by
  decide +kernel

/-- V2: written from zeros, then read. -/
theorem test_wrpix_rdpix : (formats.map fun f =>
      resultOf (exec (.rdpixOf f 3 4 0 1) (after (exec (.wrpixOf f 3 4 0 1 0xAABBCCDD) State.reset)))) =
    [0xAABBCCDD, 0x00BBCCDD, 0xCCDD, 0xCCDD, 0xDD, 0xD, 0xDD, 0xD, 0xD, 0xAABBCCDD, 0x00BBCCDD, 0xCCDD, 0xCCDD].map
      .word := by
  decide +kernel

/-- V2, plane sharing: what the write of one plane leaves of the word. -/
theorem test_wrpix_planes :
    let s := after (exec (.wrpixCt32 3 4 0 1 0xAABBCCDD) State.reset)
    ([.wrpixT4hl 3 4 0 1 0x75, .wrpixCt24 3 4 0 1 0xFF112233, .wrpixT4hh 3 4 0 1 1].map fun i =>
      Memory.vm32 (after (exec i s)).mem 37) = [0xA5BBCCDD, 0xAA112233, 0x1ABBCCDD] := by
  decide +kernel

/-- V3: the direct formats; the indexed ones give `CLUT32` at the index. -/
theorem test_rdtex : (formats.map fun f =>
      resultOf (exec (.rdtexOf f 3 4 0 1 0x000000FF00008080)
        { after (exec (.wrpixOf f 3 4 0 1 0xAABBCCDD) State.reset) with clut32 := Vector.ofFn fun i => i.val.cast })) =
    [0xAABBCCDD, 0x80BBCCDD, 0xFF9830E8, 0xFF9830E8, 221, 13, 221, 13, 13, 0xAABBCCDD, 0x80BBCCDD, 0xFF9830E8,
      0xFF9830E8].map .word := by
  decide +kernel

/-- V4. -/
theorem test_exp16 :
    ([(0x8000, 0x000000FF00008080), (0x0001, 0x000000FF00008080), (0xFFFF, 0x0000004000000080),
      (0xABCD1234, 0x000000FF00008080), (0x7C00, 0)].map fun p : Word32 × Desc => resultOf (exec (.exp16 p.1 p.2) State.reset)) =
    [0xFF000000, 0x80000008, 0x40F8F8F8, 0x802088A0, 0x00F80000].map .word := by decide +kernel

/-- V4. -/
theorem test_exp24 :
    ([(0xFF000000, 0x000000FF00008080), (0, 0x000000FF00000080), (0xAABBCCDD, 0x0000005500000080)].map
      fun p : Word32 × Desc => resultOf (exec (.exp24 p.1 p.2) State.reset)) =
    [0x00000000, 0x80000000, 0x80BBCCDD].map .word := by decide +kernel

/-- V5, the checks and the boundary bases. -/
theorem test_clutwr_status :
    ([texd 0 0 0x14 0 0 ||| pal 0 0 0 15, texd 0 0 0x14 0 0 ||| pal 0 0 0 16, texd 0 0 0x13 0 0 ||| pal 0 0 0 1,
      texd 0 0 0x13 0 0 ||| pal 0 2 0 16, texd 0 0 0x13 0 0 ||| pal 0 2 0 17, texd 0 0 0x2C 0 0 ||| pal 0 0xA 0 31, 0,
      texd 0 0 0x13 0 0 ||| pal 0 3 0 0, texd 0 0 0x13 0 0 ||| pal 0 1 0 0, texd 0 0 0x13 0 0 ||| pal 0 2 1 0,
      texd 0 0 0x05 0 0, texd 0 0 0x13 0 0 ||| pal 16383 0 0 0].map fun t => statusOf (exec (.clutwr t 0) State.reset)) =
    [0x0000, 0x010B, 0x010B, 0x0000, 0x010B, 0x0000, 0x0109, 0x010A, 0x010A, 0x0103, 0x0102, 0x0104].map some := by
  decide +kernel

/-- V5, the row 256, CT16: the units of some entries, the last two in the block after `CBP` (log entry 26). -/
theorem test_csm0_two_blocks :
    ([0, 8, 16, 24, 32, 64, 128, 255].map fun i => pixelAddr .ct16 (csm0Pixel 256 i).1 (csm0Pixel 256 i).2 0 1) =
      [0, 4, 1, 5, 32, 64, 128, 255] ∧
    ∀ f ∈ [Format.ct16, .ct16s], ∀ i < 256,
      blockAddr f (csm0Pixel 256 i).1 (csm0Pixel 256 i).2 0 1 = if i < 128 then 0 else 1 := by
  decide +kernel

/-- P3, request 4: the entry of `VM32[4099]` goes to `CLUT[41]` and `CLUT[297]`. -/
theorem test_clutwr_split :
    let t := after (exec (.clutwr 0x0200080115404000 0) (mem (Memory.write32 [] (4 * 4099) 0xFF999966)))
    (clutAt t.clut 41, clutAt t.clut 297, clutAt t.clut 42, t.clutDirty) = (0x9966, 0xFF99, 0, false) := by
  decide +kernel

/-- P3, request 5. -/
theorem test_clutrd32 :
    (after (exec (.clutrd32 0x0200080115404000 0)
      { State.reset with clut := (Vector.replicate 512 0).set 41 0x9966 |>.set 297 0xFF99 })).clut32[9] = 0xFF999966 := by
  decide +kernel

/-- P3, request 12. -/
theorem test_clutinv : (after (exec .clutinv { State.reset with clutDirty := false })).clutDirty = true := by decide +kernel

/-- V6 (a): one block of T8, in address order. -/
theorem test_swzin_block :
    let t := after (exec (.swzinT8 (dest 0 1 0x13 0 0 16 16) false ((List.range 256).map (BitVec.ofNat 8))) State.reset)
    ((List.range 16).map (Memory.read t.mem), t.result) =
      ([0, 36, 8, 44, 1, 37, 9, 45, 16, 52, 24, 60, 17, 53, 25, 61], .transfer 0 0 false 256) := by
  decide +kernel

/-- V6 (b) and (c): nibbles, and a pixel of three bytes cut by the end of the stream. -/
theorem test_swzin_partial :
    (let t := after (exec (.swzinT4 (dest 0 1 0x14 5 3 3 3) false [0x21, 0x43, 0x65, 0x87, 0xF9]) State.reset)
     ([12, 24, 28, 68, 76, 80, 84, 88, 92].map (Memory.read t.mem), t.result) =
      ([0x10, 0x20, 0x30, 0x04, 0x07, 0x05, 0x06, 0x08, 0x09], .transfer 0 0 false 5)) ∧
    resultOf (exec (.swzinCt24 (dest 0 1 1 0 0 2 2) false [1, 2, 3, 4, 5]) State.reset) = .transfer 1 0 true 3 := by
  decide +kernel

/-- V6 (b): rows packed apart, and as indices. -/
theorem test_unswz_rows :
    let t := after (exec (.swzinT4 (dest 0 1 0x14 5 3 3 3) false [0x21, 0x43, 0x65, 0x87, 0xF9]) State.reset)
    resultOf (exec (.unswzT4 ⟨5, 3, 8, 6⟩ 0 1 0 0 2) t) = .rows 2 [[0x21, 0x03], [0x54, 0x06], [0x87, 0x09]] ∧
    resultOf (exec (.unswzT4 ⟨5, 3, 8, 6⟩ 0 1 2 0 3) t) = .rows 3 [[1, 2, 3], [4, 5, 6], [7, 8, 9]] := by
  decide +kernel

/-- V6 (e): the failures. -/
theorem test_unswz_status :
    ([.unswzCt32 ⟨5, 3, 8, 6⟩ 0 1 2 0 3, .unswzCt16 ⟨0, 0, 4, 1⟩ 0 1 1 0 15, .unswzCt16 ⟨4, 0, 0, 1⟩ 0 1 0 0 8,
      .unswzCt16 ⟨0, 0, 0, 1⟩ 0 1 0 0 8, .unswzCt16 ⟨0, 0, 2049, 1⟩ 0 1 0 0 8, .unswzCt16 ⟨0, 0, 4, 1⟩ 0 0 0 0 8,
      .unswzCt16 ⟨0, 0, 4, 1⟩ 0 1 3 0 8, .unswzCt16 ⟨0, 0, 4, 1⟩ 0 1 1 0 64].map fun i =>
      statusOf (exec i State.reset)) =
    [0x010D, 0x010E, 0x0106, 0x0105, 0x0104, 0x0103, 0x010D, 0x0000].map some := by
  decide +kernel

/-- V6 (f): across planes. -/
theorem test_xfermm :
    let m := Memory.write32 [(0, 0x10), (4, 0x11), (16, 0x12), (20, 0x13)] 16384 0x00AABBCC
    let t := after (exec (.xfermm ⟨0x1B01004013020000, 0, 0x0000000100000004, 2⟩) (mem m))
    [4096, 4097, 4100, 4101].map (Memory.vm32 t.mem) = [0x10AABBCC, 0x11000000, 0x12000000, 0x13000000] := by
  decide +kernel

/-- V6 (f): an overlap, pixel by pixel. -/
theorem test_xfermm_overlap :
    let m := Memory.write32 (Memory.write32 (Memory.write32 (Memory.write32 [] 0 1) 4 2) 16 3) 20 4
    let t := after (exec (.xfermm ⟨0x0001000000010000, 0x0000000100000000, 0x0000000100000003, 2⟩) (mem m))
    [0, 1, 4, 5].map (Memory.vm32 t.mem) = [1, 1, 1, 1] := by
  decide +kernel

/-- V7 (a). -/
theorem test_required_rect :
    ([0, 5, 0x0000001C0005C08A, 0x0000000000320082, 0x00000000000281E2, 0x0000000000118402, 0x00000000070800FF,
      0x00000000001000F3].map fun c => requiredRect c 64 64) =
    [⟨0, 0, 64, 64⟩, ⟨0, 0, 64, 64⟩, ⟨8, 0, 24, 8⟩, ⟨8, 0, 64, 64⟩, ⟨0, 0, 64, 64⟩, ⟨0, 0, 64, 64⟩, ⟨32, 0, 48, 8⟩,
      ⟨0, 0, 64, 64⟩] := by
  decide +kernel

/-- A CT16 texture of 32 by 16 texels at block 0, its texels zero, as the program P4 has it. -/
def p4Entry (dirty : List DirtyRect) : Entry :=
  ⟨⟨0, .ct16, 1, 5, 4, 0, 0, .alpha 0x80 0xFF true⟩, .bitmap (List.replicate 16 (List.replicate 32 0x80F8F8F8)),
    ⟨0, 0, 32, 16⟩, dirty, 3, []⟩

/-- P4, request 3: a miss. -/
theorem test_tcfetch_miss :
    let s := mem (Memory.write16 (Memory.write16 [] 148 0x7FFF) 928 0x8000)
    let e := (after (exec (.tcfetch 0x0000000114204000 0x000000FF00008080 0) s)).tc.head?
    e.map (fun e => (e.valid, [e.texel 3 4, e.texel 20 12, e.texel 11 4], e.key.palSnap)) =
      some (⟨0, 0, 32, 16⟩, [0x80F8F8F8, 0xFF000000, 0], .alpha 0x80 0xFF true) := by
  decide +kernel

/-- The pitch of a texture 32 texels wide is 4 * 2^5 bytes (30_encoding.md R112). -/
theorem test_tcfetch_pitch :
    (match resultOf (exec (.tcfetch 0x0000000114204000 0x000000FF00008080 0) State.reset) with
      | .texture pitch _ _ => pitch
      | _ => 0) = 128 := by
  decide +kernel

/-- P4, request 8: a dirty hit decodes the block of the write again and no other. -/
theorem test_tcfetch_dirty_hit :
    let s := { mem (Memory.write32 [] 148 0x12348001) with tc := [p4Entry [⟨⟨3, 4, 4, 5⟩, .ct32⟩]] }
    let e := (after (exec (.tcfetch 0x0000000114204000 0x000000FF00008080 0) s)).tc.head?
    e.map (fun e => ([e.texel 3 4, e.texel 11 4, e.texel 0 0, e.texel 20 12], e.dirty, e.age)) =
      some ([0xFF000008, 0x802088A0, 0, 0x80F8F8F8], [], 0) := by
  decide +kernel

/-- P4, request 7, and V7 (c): a write elsewhere leaves no mark. -/
theorem test_tcinval :
    let s := { State.reset with tc := [p4Entry []] }
    ((after (exec (.tcinval 0 1 0 ⟨3, 4, 4, 5⟩) s)).tc.map Entry.dirty = [[⟨⟨3, 4, 4, 5⟩, .ct32⟩]]) ∧
    ((after (exec (.tcinval 32 1 0 ⟨0, 0, 8, 8⟩) s)).tc.map Entry.dirty = [[]]) := by
  decide +kernel

/-- V7 (b), the first rows. -/
theorem test_dirty_query :
    dirtyQuery (p4Entry [⟨⟨0, 0, 8, 8⟩, .ct32⟩]) = some ⟨0, 0, 16, 8⟩ ∧
    dirtyQuery (p4Entry [⟨⟨3, 4, 4, 5⟩, .ct32⟩]) = some ⟨0, 0, 16, 8⟩ ∧
    dirtyQuery (p4Entry []) = none := by
  decide +kernel

/-- A render target of 64 by 32 CT32 pixels at block `bp`, as the program P5 has them. -/
def target (bp : BitVec 14) (handle age : Nat) : Entry :=
  ⟨⟨bp, .ct32, 1, 6, 5, 0, 0, .empty⟩, .surface handle, ⟨0, 0, 64, 32⟩, [], age, []⟩

/-- P5, requests 1 and 14: a new target, and one made again in its place. -/
theorem test_tcrt :
    (after (exec (.tcrt 0x0000000158004020 0xB) State.reset)).tc = [target 32 0xB 0] ∧
    (after (exec (.tcrt 0x0000000158004020 0xF) { State.reset with tc := [target 32 0xB 5, target 0 0xA 1] })).tc =
      [target 32 0xF 0, target 0 0xA 1] := by
  decide +kernel

/-- P5, requests 8 and 17. -/
theorem test_tcalias :
    let s := { State.reset with tc := [target 0 0xA 2, target 32 0xB 2] }
    (after (exec (.tcalias 0x20 0 0x0000000158004020) s)).tc = [target 0 0xA 2, target 32 0xB 0] ∧
    resultOf (exec (.tcalias 0x20 0 0x0000000158004020) s) = .surface 0xB ∧
    statusOf (exec (.tcalias 0x40 0 0x0000000158004020) s) = some 0x010F := by
  decide +kernel

/-- P6, request 3: the same buffer width, half the size each way (here 8 by 8 as 4 by 4): the nearest texel, whatever
handle the sub-surface has. The texel is the resampling filter's where the implementation has one. -/
theorem test_tcalias_subsurface :
    let e : Entry := ⟨⟨0, .ct32, 1, 3, 3, 0, 0, .empty⟩, .surface 1, ⟨0, 0, 8, 8⟩, [], 2, []⟩
    (after (exec (.tcalias 0 0 (texd 0 1 0 2 2)) { State.reset with tc := [e] })).tc.map
      (fun e => (e.age, e.subs.map fun u => (u.bw, u.w, u.h))) = [(0, [(1, 4, 4)])] := by
  decide +kernel

/-- P5, requests 6 and 7: the ages go up by one; an entry no older than the threshold stays. -/
theorem test_tcage : (after (exec .tcage { State.reset with tc := [target 0 0xA 0] })).tc = [target 0 0xA 1] := by
  decide +kernel

/-- Five targets past the threshold, all of one age: the two earliest go, three stay (44_texture_cache.md R357). -/
theorem test_tcage_evicts_the_earliest :
    (after (exec .tcage { State.reset with tc := [1, 2, 3, 4, 5].map fun h => target 0 h Config.ageMax })).tc =
      [3, 4, 5].map fun h => target 0 h (Config.ageMax + 1) := by
  have h1 : ∀ b h a, (target b h a).isRt = true := fun _ _ _ => rfl
  have h2 : ∀ b h a, (target b h a).age = a := fun _ _ _ => rfl
  have h3 : ∀ b h a, (target b h a).older = target b h (a + 1) := fun _ _ _ => rfl
  change ageAndEvict ([1, 2, 3, 4, 5].map fun h => target 0 h Config.ageMax) = _
  simp [ageAndEvict, evictTargets, evictTextures, removeOldest, liveRt, Config.rtKeep, h1, h2, h3, List.eraseP_cons]

/-- P5, requests 15 and 16. -/
theorem test_tcdrop :
    let s := { State.reset with tc := [target 32 0xB 3, target 96 0xD 0] }
    (after (exec (.tcdrop 0x20 0 true) s)).tc = [target 96 0xD 0] ∧
    (after (exec (.tcdrop 0x20 0 false) s)).tc = s.tc ∧ statusOf (exec (.tcdrop 0x40 0 true) s) = some 0x0000 := by
  decide +kernel

/-- P5, request 18. -/
theorem test_tcpurge : (after (exec .tcpurge { State.reset with tc := [target 0 0xA 0] })).tc = [] := by decide +kernel

/-- V8: the three views of one word. -/
theorem test_views :
    let s := mem (Memory.write32 [] 148 0xAABBCCDD)
    ([.vmrd8 148, .vmrd8 151, .vmrd16 74, .vmrd16 75, .vmrd32 37].map fun i => resultOf (exec i s)) =
    [.byte 0xDD, .byte 0xAA, .half 0xCCDD, .half 0xAABB, .word 0xAABBCCDD] := by
  decide +kernel

/-- V8: the writes, of as many bits as the view has. -/
theorem test_view_writes :
    let s := mem (Memory.write32 [] 148 0xAABBCCDD)
    ([.vmwr8 149 0x1EE, .vmwr16 75 0x54321, .vmwr32 37 7].map fun i => Memory.vm32 (after (exec i s)).mem 37) =
    [0xAABBEEDD, 0x4321CCDD, 7] := by
  decide +kernel

/-- `NOP` (V9). -/
theorem test_nop : statusOf (exec .nop { State.reset with status := 0x0104 }) = some 0x0000 := by decide +kernel

/-- P2, request 2: the cursor in an image. -/
theorem test_save_cursor : cursorBytes ⟨17, 7, true⟩ = [0x01, 0x11, 0x00, 0x07, 0x00] := by decide +kernel

theorem byteAt_tail (n k : Nat) (c : List Byte) : byteAt (List.replicate n 0 ++ c) (n + k) = byteAt c k := by
  rw [byteAt, List.getD_append_right _ _ _ _ (by simp)]; simp [byteAt]

/-- The cursor check of an image whose bytes before the cursor are zero looks at the cursor's bytes. -/
theorem badCursor_tail (c : List Byte) : badCursor (List.replicate cursorOffset 0 ++ c) =
    (let a := (byteAt c 0).toNat
     let x := (byteAt c 2 ++ byteAt c 1).toNat
     let y := (byteAt c 4 ++ byteAt c 3).toNat
     decide (1 < a) || decide (2048 ≤ x) || decide (2048 ≤ y) || (decide (a = 0) && (decide (x ≠ 0) || decide (y ≠ 0)))) := by
  have h0 := byteAt_tail cursorOffset 0 c
  rw [Nat.add_zero] at h0
  simp only [badCursor, imageHalf, Nat.add_assoc, byteAt_tail, h0, Config.coordLimit_eq]

theorem restore_refuses {im : List Byte} {s : State} (h : ¬(im.length = imageSize ∧ badCursor im = false)) :
    statusOf (exec (.restore im) s) = some 0x0110 := by
  show statusOf (execRestore im s) = _
  rw [execRestore, if_neg h]; rfl

/-- V8: images of a wrong length, and with a cursor that is no cursor. -/
theorem test_restore_refuses :
    (∀ n, n ≠ 4195333 → statusOf (exec (.restore (List.replicate n 0)) State.reset) = some 0x0110) ∧
    ∀ c ∈ [[2, 0, 0, 0, 0], [0, 4, 0, 0, 0], [1, 0, 8, 0, 0]],
      statusOf (exec (.restore (List.replicate cursorOffset 0 ++ c)) State.reset) = some 0x0110 := by
  refine ⟨fun n hn => restore_refuses fun h => hn ?_, fun c hc => restore_refuses fun h => absurd h.2 ?_⟩
  · rw [← List.length_replicate (n := n) (a := (0 : Byte))]; exact h.1
  · rw [badCursor_tail]; clear h; revert c; decide +kernel

/-! ### Witnesses for the hypotheses of the statements -/

/-- An answer with a STATUS is a next state. -/
theorem wit_next {i : Instr} {s : State} {c : BitVec 16} (h : statusOf (exec i s) = some c) :
    ∃ t, exec i s = .next t ∧ t.status = c := ⟨_, next_after h⟩

theorem wit_DecodeOfEncode : (Instr.swzinOf .t8 ⟨0, 0, 0, 0⟩ true (List.replicate (2 ^ 32 - 1) 0)).wf = true :=
  test_wf_takes_longest_stream _ _ _

theorem wit_HeaderOfDecode : decode ⟨0x3024, .zero, []⟩ = .ok (.swzinT4hl ⟨0, 0, 0, 0⟩ false []) := by rfl

/-- The operation codes without a format and with one, and the format codes (30_encoding.md R93, R95). -/
abbrev plainOps : List Nat :=
  [0x00, 0x08, 0x09, 0x0A, 0x0C, 0x0D, 0x0E, 0x20, 0x21, 0x28, 0x29, 0x2A, 0x32, 0x40, 0x41, 0x42, 0x43, 0x44, 0x45, 0x46,
    0x50, 0x51]
abbrev formattedOps : List Nat := [0x01, 0x02, 0x03, 0x10, 0x11, 0x12, 0x30, 0x31]
abbrev legalCodes : List Nat := [0x00, 0x01, 0x02, 0x0A, 0x13, 0x14, 0x1B, 0x24, 0x2C, 0x30, 0x31, 0x32, 0x3A]

/-- The six clauses, in their order. -/
theorem wit_RefusedHeaders :
    (∀ op ∈ [0x04, 0x0B, 0x47, 0x52, 0xFF],
      (BitVec.ofNat 16 (op * 256) >>> 8).toNat = op ∧ op ∉ plainOps ∧ op ∉ formattedOps) ∧
    (((0x0140 : BitVec 16) >>> 8).toNat ∈ formattedOps ∧ (0x0140 : BitVec 16) >>> 6 &&& 3 ≠ 0) ∧
    (((0x00C0 : BitVec 16) >>> 8).toNat ∈ plainOps ∧ (0x00C0 : BitVec 16) >>> 6 &&& 3 ≠ 0) ∧
    (((0x0001 : BitVec 16) >>> 8).toNat ∈ plainOps ∧ (0x0001 : BitVec 16) >>> 6 &&& 3 = 0 ∧
      ((0x0001 : BitVec 16) &&& 0x3F).toNat ≠ 0) ∧
    (((0x0103 : BitVec 16) >>> 8).toNat ∈ formattedOps ∧ (0x0103 : BitVec 16) >>> 6 &&& 3 = 0 ∧
      ((0x0103 : BitVec 16) &&& 0x3F).toNat ∉ legalCodes) ∧
    (((0x5100 : BitVec 16) >>> 8).toNat ∈ plainOps ∧ (0x5100 : BitVec 16) >>> 6 &&& 3 = 0 ∧
      ((0x5100 : BitVec 16) &&& 0x3F).toNat = 0) ∧
    (((0x313A : BitVec 16) >>> 8).toNat ∈ formattedOps ∧ (0x313A : BitVec 16) >>> 6 &&& 3 = 0 ∧
      ((0x313A : BitVec 16) &&& 0x3F).toNat ∈ legalCodes) ∧
    (State.reset.withFetchWord 16 0x0400).requests = ⟨0x0400, .zero, []⟩ :: [] := by
  decide +kernel

theorem wit_StepRunsTheDecodedRequest :
    (State.reset.withFetchWord 16 0x3024).requests = ⟨0x3024, .zero, []⟩ :: [] ∧
    decode ⟨0x3024, .zero, []⟩ = .ok (.swzinT4hl ⟨0, 0, 0, 0⟩ false []) ∧ State.reset.requests = [] := ⟨rfl, rfl, rfl⟩

theorem wit_AddressOperations : (1 : BitVec 6) ≠ 0 ∧ (63 : BitVec 6) ≠ 0 := by decide

/-- The last column of a buffer of one page, a T8 page being two units wide. -/
theorem wit_PaddrIsInjective : (1 : BitVec 6) ≠ 0 ∧
    (127 : BitVec 12).toNat < ((1 : BitVec 6).toNat * 64 + (fmt .t8).pw - 1) / (fmt .t8).pw * (fmt .t8).pw ∧
    exec (.paddrOf .t8 127 4095 5 1) State.reset = exec (.paddrOf .t8 127 4095 5 1) State.reset :=
  ⟨by decide, by decide, rfl⟩

theorem wit_PageImage : (1 : BitVec 6) ≠ 0 ∧ (5 * (8 * 8) ≤ 2367 ∧ 2367 < (5 + 32) * (8 * 8)) := by decide

/-- The last block of GSMEM and the block after it. -/
theorem wit_ArenaCheckIsTheBlockCheck : (1 : BitVec 6) ≠ 0 ∧ blockAddr .ct32 7 7 16383 1 = 16383 ∧
    blockAddr .ct32 8 0 16383 1 = 16384 := by decide +kernel

theorem wit_RdtexConvertsTheRawValue : (63 : BitVec 6) ≠ 0 ∧ blockAddr .t8 15 15 16383 63 < 16384 := by decide +kernel

theorem wit_PixelRoundTrip : (1 : BitVec 6) ≠ 0 ∧ blockAddr .t4 31 15 16383 1 < 16384 := by decide +kernel

/-- Each class, the last unit of GSMEM and the first beyond. -/
theorem wit_RdpixReadsTheUnit :
    4 * pixelAddr .ct32 7 7 16383 1 + 4 = 4194304 ∧ 4194304 < 4 * pixelAddr .ct32 8 0 16383 1 + 4 ∧
    2 * pixelAddr .ct16 15 7 16383 1 + 2 = 4194304 ∧ 4194304 < 2 * pixelAddr .ct16 0 8 16383 1 + 2 ∧
    pixelAddr .t8 15 15 16383 1 + 1 = 4194304 ∧ 4194304 < pixelAddr .t8 16 0 16383 1 + 1 ∧
    pixelAddr .t4 31 15 16383 1 / 2 + 1 = 4194304 ∧ 4194304 < pixelAddr .t4 0 16 16383 1 / 2 + 1 := by decide +kernel

/-- The same units as for `RdpixReadsTheUnit`. -/
theorem wit_WrpixWritesTheUnit :
    4 * pixelAddr .ct32 7 7 16383 1 + 4 ≤ 4194304 ∧ 4194304 < 4 * pixelAddr .ct32 8 0 16383 1 + 4 ∧
    2 * pixelAddr .ct16 15 7 16383 1 + 2 ≤ 4194304 ∧ 4194304 < 2 * pixelAddr .ct16 0 8 16383 1 + 2 ∧
    pixelAddr .t8 15 15 16383 1 + 1 ≤ 4194304 ∧ 4194304 < pixelAddr .t8 16 0 16383 1 + 1 ∧
    pixelAddr .t4 31 15 16383 1 / 2 + 1 ≤ 4194304 ∧ 4194304 < pixelAddr .t4 0 16 16383 1 / 2 + 1 := by decide +kernel

/-- The 24-bit plane and the byte above it in one word: the bits meet end to end. -/
theorem wit_PixelNonInterference :
    (∀ n, ¬((footBit .ct24 3 4 0 1 ≤ n ∧ n < footBit .ct24 3 4 0 1 + rawBits .ct24) ∧
      footBit .t8h 3 4 0 1 ≤ n ∧ n < footBit .t8h 3 4 0 1 + rawBits .t8h)) ∧
    (∃ t, exec (.wrpixOf .ct24 3 4 0 1 7) State.reset = .next t ∧ t.status = 0) ∧
    ∃ u, exec (.rdpixOf .t8h 3 4 0 1) State.reset = .next u ∧ u.status = 0 := by
  refine ⟨fun n => ?_, wit_next (by decide +kernel), wit_next (by decide +kernel)⟩
  rw [show footBit .ct24 3 4 0 1 = 1184 by decide +kernel, show footBit .t8h 3 4 0 1 = 1208 by decide +kernel, rawBits]
  omega

/-- A 32-bit palette that ends at entry 255 and lies in the last block; one at the end of the second bank, read in a row;
one whose entry 16 lies past the arena. -/
theorem wit_ClutwrRebuildsThePalette :
    (formatOf (Texd.psm (texd 0 0 0x14 0 0 ||| pal 16383 0 0 15)) = some .t4 ∧ (fmt .t4).pal = 16 ∧
      Texd.cpsm (texd 0 0 0x14 0 0 ||| pal 16383 0 0 15) = 0 ∧ 16 * 15 + 16 ≤ 256 ∧
      Texd.csm (texd 0 0 0x14 0 0 ||| pal 16383 0 0 15) = false ∧
      ∀ i < 16, blockAddr .ct32 (i % 8) (i / 8) 16383 1 < 16384) ∧
    (Texd.cpsm (texd 0 0 0x2C 0 0 ||| pal 0 0xA 1 31) = 0xA ∧ (fmt .t4hh).pal + 16 * 31 ≤ 512 ∧
      Texd.csm (texd 0 0 0x2C 0 0 ||| pal 0 0xA 1 31) = true ∧ Clutd.cbw 0x5081 ≠ 0 ∧
      ∀ i < 16, blockAddr .ct16s (2 * 16 + i) 5 0 1 < 16384) ∧
    ((fmt .t8).pal = 256 ∧ 16 * 0 + 256 ≤ 256 ∧ (16 &&& 0xE7 ||| (16 &&& 0x08) <<< 1 ||| (16 &&& 0x10) >>> 1) = 8 ∧
      16384 ≤ blockAddr .ct32 (8 % 16) (8 / 16) 16383 1) ∧
    State.reset.clutDirty = true ∧ State.reset.clutSnap ≠ some (clutSig 16 0 0) := by
  decide +kernel

theorem wit_ClutwrShortCircuits :
    let d := texd 0 0 0x13 0 0 ||| pal 0 2 1 16
    let s := { State.reset with clutDirty := false, clutSnap := some (clutSig 256 d 0x5081) }
    formatOf (Texd.psm d) = some .t8 ∧ 256 = (fmt .t8).pal ∧ 256 ≠ 0 ∧ Texd.cpsm d = 2 ∧
    16 * (Texd.csa d).toNat + 256 = 512 ∧ Clutd.cbw 0x5081 ≠ 0 ∧ s.clutDirty = false ∧
    s.clutSnap = some (clutSig 256 d 0x5081) := by
  decide +kernel

/-- The clauses in their order, the last base that fits and the first that does not. -/
theorem wit_PaletteChecks :
    formatOf (Texd.psm (texd 0 0 0x05 0 0)) = none ∧ (formatOf (Texd.psm 0) = some .ct32 ∧ (fmt .ct32).pal = 0) ∧
    (formatOf (Texd.psm (texd 0 0 0x13 0 0)) = some .t8 ∧ (fmt .t8).pal = 256 ∧
      ∀ c ∈ [0x1, 0x3, 0xB], Texd.cpsm (texd 0 0 0x13 0 0 ||| pal 0 c 0 0) ∉ [0x0, 0x2, 0xA]) ∧
    (Texd.cpsm (texd 0 0 0x13 0 0 ||| pal 0 0 0 1) = 0 ∧ 256 < 16 * 1 + (fmt .t8).pal) ∧
    (Texd.cpsm (texd 0 0 0x13 0 0 ||| pal 0 2 0 17) ∈ [0x2, 0xA] ∧ 512 < 16 * 17 + (fmt .t8).pal) ∧
    (Texd.cpsm (texd 0 0 0x13 0 0 ||| pal 0 2 1 16) ∈ [0x2, 0xA] ∧ 16 * 16 + (fmt .t8).pal ≤ 512 ∧
      Texd.csm (texd 0 0 0x13 0 0 ||| pal 0 2 1 16) = true ∧ Clutd.cbw 0 = 0) := by
  decide +kernel

theorem wit_Clutrd32CopiesThePalette :
    formatOf (Texd.psm (texd 0 0 0x14 0 0)) = some .t4 ∧ (fmt .t4).pal ≠ 0 ∧
    (Texd.cpsm (texd 0 0 0x14 0 0 ||| pal 0 0 0 15) = 0 ∧ 16 * 15 + (fmt .t4).pal = 256) ∧
    (Texd.cpsm (texd 0 0 0x14 0 0 ||| pal 0 0xA 0 31) ∈ [0x2, 0xA] ∧ 16 * 31 + (fmt .t4).pal = 512) := by
  decide +kernel

/-- Two states with the same GSMEM and other palette memories. -/
theorem wit_ClutIsDeterministic :
    let d := texd 0 0 0x14 0 0 ||| pal 0 2 0 0
    let s := State.reset
    let s' := { State.reset with clut := Vector.replicate 512 0xFFFF, clut32 := Vector.replicate 256 7 }
    formatOf (Texd.psm d) = some .t4 ∧ cpsmFormat (Texd.cpsm d) = some .ct16 ∧ s.clutDirty = true ∧ s'.clutDirty = true ∧
    (∀ i < (fmt .t4).pal, srcEntry s.mem .ct16 (fmt .t4).pal d 0 i = srcEntry s'.mem .ct16 (fmt .t4).pal d 0 i) ∧
    ∃ t t' u u', exec (.clutwr d 0) s = .next t ∧ exec (.clutwr d 0) s' = .next t' ∧ t.status = 0x0000 ∧
      exec (.clutrd32 d 0) t = .next u ∧ exec (.clutrd32 d 0) t' = .next u' := by
  refine ⟨by decide +kernel, by decide +kernel, rfl, rfl, fun _ _ => rfl, ?_⟩
  refine ⟨_, _, _, _, (next_after (c := 0) ?_).1, (next_after (c := 0) ?_).1, (next_after (c := 0) ?_).2,
    (next_after (c := 0) ?_).1, (next_after (c := 0) ?_).1⟩ <;> decide +kernel

/-- The last block of GSMEM filled, resumed at its last pixel, at the edge of the coordinates; and one pixel too far. -/
theorem wit_SwzinTransfersPixels :
    let d := dest 16383 1 0 0 0 8 8
    (xferRrw d ≠ 0 ∧ xferRrh d ≠ 0 ∧ xferXdir d = 0 ∧ xferDir d = 0 ∧ xferDpsm d = Format.ct32.code ∧ xferDbw d ≠ 0 ∧
      (xferDsax d).toNat + (xferRrw d).toNat ≤ 2048) ∧
    (∀ j < 64, blockAddr .ct32 (j % 8) (j / 8) 16383 1 < 16384) ∧
    (let c : Cursor := ⟨7, 7, true⟩; c.active = true ∧ c.x.toNat < 0 + 8 ∧ c.y.toNat < 0 + 8) ∧
    (let e := dest 0 32 0x14 2047 2047 1 1
     (xferDsax e).toNat + (xferRrw e).toNat = 2048 ∧ (xferDsay e).toNat + (xferRrh e).toNat = 2048 ∧
      blockAddr .t4 2047 2047 0 32 < 16384) ∧
    16384 ≤ blockAddr .ct32 8 0 16383 1 := by
  decide +kernel

/-- Nine nibbles in two calls of three and two bytes. -/
theorem wit_SwzinCallsCompose :
    let d := dest 0 1 0x14 5 3 3 3
    ∃ t u x y active consumed, exec (.swzinOf .t4 d false [0x21, 0x43, 0x65]) State.reset = .next t ∧ t.status = 0x0000 ∧
      t.result = .transfer x y active consumed ∧ exec (.swzinOf .t4 d true [0x87, 0xF9]) t = .next u ∧
      u.status = 0x0000 := by
  have h : statusOf (exec (.swzinOf .t4 (dest 0 1 0x14 5 3 3 3) false [0x21, 0x43, 0x65]) State.reset) = some 0x0000 := by
    decide +kernel
  have h' : statusOf (exec (.swzinOf .t4 (dest 0 1 0x14 5 3 3 3) true [0x87, 0xF9])
      (after (exec (.swzinOf .t4 (dest 0 1 0x14 5 3 3 3) false [0x21, 0x43, 0x65]) State.reset))) = some 0x0000 := by
    decide +kernel
  exact ⟨_, _, 5, 5, true, 3, (next_after h).1, (next_after h).2, by decide +kernel, (next_after h').1, (next_after h').2⟩

/-- No transfer in flight; the cursor on each side of the rectangle from (4, 4) to (8, 8). -/
theorem wit_SwzinRefusesABadCursor :
    let d := dest 0 1 0 4 4 4 4
    (xferRrw d ≠ 0 ∧ xferRrh d ≠ 0 ∧ xferXdir d = 0 ∧ xferDir d = 0 ∧ xferDpsm d = Format.ct32.code ∧ xferDbw d ≠ 0 ∧
      (xferDsax d).toNat + (xferRrw d).toNat ≤ 2048 ∧ (xferDsay d).toNat + (xferRrh d).toNat ≤ 2048) ∧
    State.reset.cur.active = false ∧
    ∀ p ∈ [(3, 4), (8, 4), (4, 3), (4, 8)], (p.1 < 4 ∨ 4 + 4 ≤ p.1 ∨ p.2 < 4 ∨ 4 + 4 ≤ p.2) ∧
      statusOf (exec (.swzinOf .ct32 d true []) { State.reset with cur := ⟨BitVec.ofNat 11 p.1, BitVec.ofNat 11 p.2, true⟩ })
        = some 0x010C := by
  decide +kernel

/-- The clauses of `SWZIN`, then those of `XFERMM`, each with every earlier check passed, by the STATUS each ends in. -/
theorem wit_TransferChecks :
    ([dest 0 1 0 0 0 0 1, { dest 0 1 0 0 0 1 1 with trxdir := 1 }, { dest 0 1 0 0 0 1 1 with trxpos := 1 <<< 59 },
      dest 0 1 1 0 0 1 1, dest 0 1 0 2047 0 2 1, dest 0 1 0 0 2047 1 2, dest 0 0 0 2047 2047 1 1].map fun d =>
        statusOf (exec (.swzinOf .ct32 d false []) State.reset)) =
      [0x0105, 0x0107, 0x0107, 0x0102, 0x0104, 0x0104, 0x0103].map some ∧
    ([dest 0 1 0 0 0 1 0, dest 0 1 0 0 0 1 1, { dest 0 1 0 0 0 1 1 with trxdir := 2, trxpos := 1 <<< 59 },
      { dest 0 1 3 0 0 1 1 with trxdir := 2 }, { dest 0 1 0 2047 0 2 1 with trxdir := 2 },
      { dest 0 1 0 0 0 2 1 with trxdir := 2, trxpos := 2047 }, { dest 0 1 0 0 0 1 1 with trxdir := 2 },
      { dest 0 1 2 0 0 1 1 with trxdir := 2, bitblt := 0x0201000000010000 }].map fun d =>
        statusOf (exec (.xfermm d) State.reset)) =
      [0x0105, 0x0107, 0x0107, 0x0102, 0x0104, 0x0104, 0x0103, 0x0102].map some := by
  decide +kernel

/-- One pixel at the far corner of the coordinates; the three modes. -/
theorem wit_UnswzReturnsTheRows :
    (2047 : BitVec 12).toNat < (2048 : BitVec 12).toNat ∧ (2048 : BitVec 12).toNat ≤ 2048 ∧ (1 : BitVec 6) ≠ 0 ∧
    (fmt .t4).trbpp = 4 ∧ (fmt .t4).pal ≠ 0 ∧ (1 * 4 + 7) / 8 ≤ (1 : Word32).toNat ∧
    (∀ x y, 2047 ≤ x → x < 2048 → 2047 ≤ y → y < 2048 → blockAddr .t4 x y 0 (1 : BitVec 6).toNat < 16384) ∧
    ∀ m ∈ [0, 1, 2], statusOf (exec (.unswzOf .t4 ⟨2047, 2047, 2048, 2048⟩ 0 1 m 0 4) State.reset) = some 0x0000 := by
  refine ⟨by decide, by decide, by decide, by decide, by decide, by decide, fun x y h1 h2 h3 h4 => ?_, by decide +kernel⟩
  obtain rfl : x = 2047 := by omega
  obtain rfl : y = 2047 := by omega
  decide +kernel

/-- The clauses of `UNSWZ`, then those of `TCINVAL`, each with every earlier check passed, by the STATUS each ends in. -/
theorem wit_RectangleChecks :
    ([.unswzOf .ct32 ⟨1, 0, 0, 1⟩ 0 1 0 0 8, .unswzOf .ct32 ⟨0, 1, 1, 0⟩ 0 1 0 0 8, .unswzOf .ct32 ⟨1, 0, 1, 1⟩ 0 1 0 0 8,
      .unswzOf .ct32 ⟨0, 0, 2049, 1⟩ 0 1 0 0 8, .unswzOf .ct32 ⟨0, 0, 2048, 1⟩ 0 0 0 0 8,
      .unswzOf .ct32 ⟨0, 0, 1, 1⟩ 0 1 2 0 8, .unswzOf .ct32 ⟨0, 0, 1, 1⟩ 0 1 3 0 8, .unswzOf .ct32 ⟨0, 0, 2, 1⟩ 0 1 0 0 7,
      .unswzOf .ct32 ⟨8, 0, 9, 1⟩ 16383 1 0 0 4].map fun i => statusOf (exec i State.reset)) =
      [0x0106, 0x0106, 0x0105, 0x0104, 0x0103, 0x010D, 0x010D, 0x010E, 0x0104].map some ∧
    ([.tcinval 0 1 3 ⟨0, 0, 1, 1⟩, .tcinval 0 0 0 ⟨0, 0, 1, 1⟩, .tcinval 0 1 0 ⟨1, 0, 0, 1⟩, .tcinval 0 1 0 ⟨1, 0, 1, 1⟩,
      .tcinval 0 1 0 ⟨0, 0, 1, 2049⟩].map fun i => statusOf (exec i State.reset)) =
      [0x0102, 0x0103, 0x0106, 0x0105, 0x0104].map some := by
  decide +kernel

/-- A rectangle of whole bytes a row, and of half bytes, to the right edge of a buffer. -/
theorem wit_SwzinThenUnswzIsTheStream :
    (∃ t, exec (.swzinOf .t4 (dest 0 1 0x14 125 3 3 3) false [0x21, 0x43, 0x65, 0x87, 0xF9]) State.reset = .next t ∧
      t.status = 0x0000) ∧ [0x21, 0x43, 0x65, 0x87, 0xF9].length = (3 * 3 * 4 + 7) / 8 ∧
    125 + 3 = (1 * 64 + (fmt .t4).pw - 1) / (fmt .t4).pw * (fmt .t4).pw ∧ (3 * 4 + 7) / 8 ≤ (2 : Word32).toNat ∧
    (∃ t, exec (.swzinOf .t8 (dest 0 1 0x13 0 0 2 1) false [1, 2]) State.reset = .next t ∧ t.status = 0x0000) ∧
    2 * (fmt .t8).trbpp % 8 = 0 :=
  ⟨wit_next (by decide +kernel), rfl, rfl, by decide, wit_next (by decide +kernel), rfl⟩

/-- The far corner of the coordinates; the last block and the block after it. -/
theorem wit_XfermmCopiesPixelByPixel :
    let d : Xferd := ⟨0x1B013FFF1B010000, 0x000007FF000007FF, 0x0000000100000001, 2⟩
    (xferRrw d ≠ 0 ∧ xferRrh d ≠ 0 ∧ xferXdir d = 2 ∧ xferDir d = 0 ∧ formatOf (xferSpsm d) = some .t8h ∧
      formatOf (xferDpsm d) = some .t8h ∧ xferSbw d ≠ 0 ∧ xferDbw d ≠ 0 ∧
      (xferSsax d).toNat + (xferRrw d).toNat = 2048 ∧ (xferDsax d).toNat + (xferRrw d).toNat = 2048) ∧
    16384 ≤ blockAddr .t8h 2047 0 16383 1 ∧
    statusOf (exec (.xfermm d) State.reset) = some 0x0104 ∧
    statusOf (exec (.xfermm { d with bitblt := 0x1B0100001B010000 }) State.reset) = some 0x0000 := by
  decide +kernel

/-- The clauses in their order, each with every earlier check passed, by the STATUS each ends in. -/
theorem wit_CacheOperandChecks :
    ([.tcfetch (texd 0 1 3 0 0) 0 0, .tcrt (texd 0 1 3 0 0) 0, .tcalias 0 0 (texd 0 1 3 0 0),
      .tcalias (texd 0 1 3 0 0) 0 (texd 0 1 0 0 0), .tcdrop (texd 0 1 3 0 0) 0 true, .tcfetch 0 0 0, .tcrt 0 0, .tcalias 0 0 0,
      .tcfetch (texd 0 1 0 11 0) 0 0, .tcrt (texd 0 1 0 0 11) 0, .tcalias 0 0 (texd 0 1 0 11 10),
      .tcalias 0 0 (texd 0 1 0 10 10)].map fun i => statusOf (exec i State.reset)) =
    [0x0102, 0x0102, 0x0102, 0x0102, 0x0102, 0x0103, 0x0103, 0x0103, 0x0108, 0x0108, 0x0108, 0x010F].map some := by
  decide +kernel

theorem wit_TcfetchRefusesExactlyContradictions :
    (let d := texd 0 1 0x13 10 10 ||| pal 0 3 0 0
     formatOf (Texd.psm d) = some .t8 ∧ Texd.tbw d ≠ 0 ∧ (Texd.tw d).toNat ≤ 10 ∧ (Texd.th d).toNat ≤ 10 ∧
      ((fmt .t8).pal ≠ 0 ∧ Texd.cpsm d ∉ [0x0, 0x2, 0xA])) ∧
    let d := texd 0 1 0x13 0 0 ||| pal 0 0xA 0 0
    ¬((fmt .t8).pal ≠ 0 ∧ Texd.cpsm d ∉ [0x0, 0x2, 0xA]) ∧ ∃ t, exec (.tcfetch d 0 0) State.reset = .next t ∧ t.status = 0 :=
  ⟨by decide +kernel, by decide +kernel, wit_next (by decide +kernel)⟩

/-- A texture that no request of these witnesses names. -/
def other : Entry := ⟨⟨99, .ct32, 1, 0, 0, 0, 0, .empty⟩, .bitmap [[0]], ⟨0, 0, 1, 1⟩, [], 0, []⟩

/-- Room in the cache and none; the last block, and a texel in the block after it. -/
theorem wit_TcfetchMissMakesAnEntry :
    let d := texd 16383 1 0 3 3
    (formatOf (Texd.psm d) = some .ct32 ∧ Texd.tbw d ≠ 0 ∧ (Texd.tw d).toNat ≤ 10 ∧ (Texd.th d).toNat ≤ 10 ∧
      (fmt .ct32).pal = 0) ∧ (∀ e ∈ State.reset.tc, e.isRt = false) ∧ State.reset.tc.length ≠ Config.maxEntries ∧
    (∀ e ∈ List.replicate Config.maxEntries other, e = other) ∧ other.isRt = false ∧ other.key.bp ≠ Texd.tbp0 d ∧
    (List.replicate Config.maxEntries other).length = Config.maxEntries ∧
    List.replicate Config.maxEntries other = [] ++ other :: List.replicate Config.maxEntriesLess1 other ∧
    (∀ x < 8, ∀ y < 8, blockAddr .ct32 x y 16383 1 < 16384) ∧ 16384 ≤ blockAddr .ct32 8 0 16383 1 := by
  refine ⟨by decide +kernel, fun e h => absurd h (List.not_mem_nil), by simp [State.reset, Config.maxEntries], fun e h =>
    List.eq_of_mem_replicate h, rfl, by decide +kernel, List.length_replicate, ?_, by decide +kernel, by decide +kernel⟩
  rw [Config.maxEntries, List.replicate_succ, List.nil_append]

/-- The entry of P4 clean, all of it required and all of it valid. -/
theorem wit_TcfetchCleanHit :
    let d : Desc := 0x0000000114204000
    let e := p4Entry []
    (formatOf (Texd.psm d) = some .ct16 ∧ Texd.tbw d ≠ 0 ∧ (Texd.tw d).toNat ≤ 10 ∧ (Texd.th d).toNat ≤ 10 ∧
      (fmt .ct16).pal = 0) ∧ (∀ x ∈ [e], x.isRt = false) ∧ [e] = [] ++ e :: [] ∧
    e.key = fetchKey .ct16 d 0x000000FF00008080 0 State.reset.clut32 ∧
    e.content = .bitmap (List.replicate 16 (List.replicate 32 0x80F8F8F8)) ∧
    rowsFill (List.replicate 16 (List.replicate 32 0x80F8F8F8)) e.valid ∧ e.dirty = [] ∧
    (requiredRect 0 e.width e.height).within e.valid := by
  refine ⟨by decide +kernel, by decide +kernel, rfl, by decide +kernel, rfl, ⟨by decide +kernel, by decide +kernel⟩, rfl, ?_⟩
  rw [show requiredRect 0 (p4Entry []).width (p4Entry []).height = ⟨0, 0, 32, 16⟩ by decide +kernel]
  exact ⟨le_rfl, le_rfl, le_rfl, le_rfl⟩

/-- The entry of P4 dirty; and one in the last block whose right half is not yet valid and lies past the arena. -/
theorem wit_TcfetchHitRefreshesAndExtends :
    (let e := p4Entry [⟨⟨3, 4, 4, 5⟩, .ct32⟩]
     e.key = fetchKey .ct16 0x0000000114204000 0x000000FF00008080 0 State.reset.clut32 ∧
      e.valid.union (requiredRect 0 e.width e.height) = ⟨0, 0, 32, 16⟩ ∧ dirtyQuery e = some ⟨0, 0, 16, 8⟩ ∧
      ∀ x < 32, ∀ y < 16, blockAddr .ct16 x y 0 1 < 16384) ∧
    let e : Entry := ⟨⟨16383, .ct16, 1, 5, 3, 0, 0, .alpha 0x80 0xFF true⟩,
      .bitmap (List.replicate 8 (List.replicate 16 0)), ⟨0, 0, 16, 8⟩, [], 0, []⟩
    e.key = fetchKey .ct16 (texd 16383 1 2 5 3) 0x000000FF00008080 0 State.reset.clut32 ∧
    (e.valid.union (requiredRect 0 e.width e.height)).has 16 0 = true ∧ e.valid.has 16 0 = false ∧
    16384 ≤ blockAddr .ct16 16 0 16383 1 := by
  decide +kernel

theorem wit_TcfetchTakesTheTargetPath :
    let d : Desc := 0x0000000158004000
    let e := target 0 0xA 2
    formatOf (Texd.psm d) = some .ct32 ∧ Texd.tbw d ≠ 0 ∧ (Texd.tw d).toNat ≤ 10 ∧ (Texd.th d).toNat ≤ 10 ∧
    (fmt .ct32).pal = 0 ∧ [target 32 0xB 0, e] = [target 32 0xB 0] ++ e :: [] ∧ (target 32 0xB 0).key.bp ≠ Texd.tbp0 d ∧
    e.isRt = true ∧ e.key.bp = Texd.tbp0 d ∧ e.key.psm = .ct32 := by
  decide +kernel

/-- A written block that the entry holds, and the block right after the entry's last. -/
theorem wit_TcinvalRecordsTheWrite :
    let e := target 0 0xA 2
    (formatOf 0 = some .ct32 ∧ (1 : BitVec 6) ≠ 0 ∧ (2040 : BitVec 12).toNat < (2048 : BitVec 12).toNat) ∧
    ([e] : List Entry)[0]? = some e ∧
    (∃ x y x' y' n, (⟨0, 0, 8, 8⟩ : Rect).has x y = true ∧ blockAddr .ct32 x y 31 1 < 16384 ∧ e.area.has x' y' = true ∧
      (footBit .ct32 x y 31 1 ≤ n ∧ n < footBit .ct32 x y 31 1 + rawBits .ct32) ∧
      footBit .ct32 x' y' 0 1 ≤ n ∧ n < footBit .ct32 x' y' 0 1 + rawBits .ct32) ∧
    ¬∃ x y x' y' n, (⟨0, 0, 8, 8⟩ : Rect).has x y = true ∧ blockAddr .ct32 x y 32 1 < 16384 ∧ e.area.has x' y' = true ∧
      (footBit .ct32 x y 32 1 ≤ n ∧ n < footBit .ct32 x y 32 1 + rawBits .ct32) ∧
      footBit .ct32 x' y' 0 1 ≤ n ∧ n < footBit .ct32 x' y' 0 1 + rawBits .ct32 := by
  refine ⟨by decide +kernel, rfl, ⟨0, 0, 56, 24, 63488, by decide +kernel⟩, ?_⟩
  rintro ⟨x, y, x', y', n, h1, -, h2, ⟨h3, -⟩, -, h4⟩
  rw [show (target 0 0xA 2).area = ⟨0, 0, 64, 32⟩ by decide] at h2
  simp only [Rect.has, Bool.and_eq_true, decide_eq_true_eq] at h1 h2
  have a := (by decide +kernel : ∀ x < 8, ∀ y < 8, 65536 ≤ footBit .ct32 x y 32 1) x h1.1.1.2 y h1.2
  have b := (by decide +kernel : ∀ x < 64, ∀ y < 32, footBit .ct32 x y 0 1 + rawBits .ct32 ≤ 65536) x' h2.1.1.2 y' h2.2
  omega

theorem p4Entry_ok : (p4Entry []).ok := by
  refine ⟨by decide, by decide, by decide, ⟨by decide, by decide⟩, ?_, fun d h => absurd h List.not_mem_nil,
    ⟨by decide +kernel, by decide +kernel⟩, ⟨by decide, by decide, by decide⟩, rfl⟩
  exact ⟨le_rfl, le_rfl, le_rfl, le_rfl⟩

/-- P4, requests 7 and 8: texel (3, 4) shares the written pixel's bits; texel (20, 12) lies outside the dirty query. -/
theorem wit_CacheCoherency :
    let d : Desc := 0x0000000114204000
    let a : Desc := 0x000000FF00008080
    let s := { mem (Memory.write32 [] 148 0x12348001) with tc := [p4Entry []] }
    formatOf (Texd.psm d) = some .ct16 ∧ formatOf 0 = some .ct32 ∧ (∀ x ∈ s.tc, x.isRt = false) ∧
    s.tc.find? (isTexture (fetchKey .ct16 d a 0 s.clut32)) = some (p4Entry []) ∧ (p4Entry []).ok ∧
    (∃ t u pitch rows valid, exec (.tcinval 0 1 0 ⟨3, 4, 4, 5⟩) s = .next t ∧ t.status = 0x0000 ∧
      exec (.tcfetch d a 0) t = .next u ∧ u.result = .texture pitch rows valid ∧
      ∀ e ∈ t.tc, dirtyQuery e = some ⟨0, 0, 16, 8⟩) ∧
    (p4Entry []).valid.has 3 4 = true ∧ (p4Entry []).valid.has 20 12 = true ∧
    (⟨0, 0, 16, 8⟩ : Rect).has 20 12 = false ∧ blockAddr .ct32 3 4 0 1 < 16384 ∧
    footBit .ct32 3 4 0 1 = 1184 ∧ footBit .ct16 3 4 0 1 = 1184 := by
  refine ⟨by decide +kernel, by decide +kernel, by decide +kernel, by decide +kernel, p4Entry_ok, ?_, by decide +kernel,
    by decide +kernel, by decide +kernel, by decide +kernel, by decide +kernel, by decide +kernel⟩
  have h : statusOf (exec (.tcinval 0 1 0 ⟨3, 4, 4, 5⟩)
      { mem (Memory.write32 [] 148 0x12348001) with tc := [p4Entry []] }) = some 0 := by decide +kernel
  have h' : statusOf (exec (.tcfetch 0x0000000114204000 0x000000FF00008080 0)
      (after (exec (.tcinval 0 1 0 ⟨3, 4, 4, 5⟩)
        { mem (Memory.write32 [] 148 0x12348001) with tc := [p4Entry []] }))) = some 0 := by decide +kernel
  have hr : ∀ r : Result, (match r with | .texture _ _ _ => true | _ => false) = true →
      ∃ pitch rows valid, r = .texture pitch rows valid := by
    intro r; cases r <;> simp
  obtain ⟨pitch, rows, valid, e⟩ := hr (after (exec (.tcfetch 0x0000000114204000 0x000000FF00008080 0)
      (after (exec (.tcinval 0 1 0 ⟨3, 4, 4, 5⟩)
        { mem (Memory.write32 [] 148 0x12348001) with tc := [p4Entry []] })))).result (by decide +kernel)
  exact ⟨_, _, pitch, rows, valid, (next_after h).1, (next_after h).2, (next_after h').1, e, by decide +kernel⟩

theorem wit_DirtyQueryIsTheBlockBox : dirtyQuery (p4Entry [⟨⟨3, 4, 4, 5⟩, .ct32⟩]) = some ⟨0, 0, 16, 8⟩ :=
  test_dirty_query.2.1

/-- A render target of 8 by 8 CT32 pixels under a width of two units, with one sub-surface. -/
def small (subs : List SubSurface) : Entry := ⟨⟨0, .ct32, 2, 3, 3, 0, 0, .empty⟩, .surface 1, ⟨0, 0, 8, 8⟩, [], 2, subs⟩

/-- The target's own shape, a sub-surface's shape, a shape of neither. -/
theorem wit_TcaliasFindsOrMakesASurface :
    let e := small [⟨1, 8, 8, 2⟩]
    (∀ p ∈ [(2, 3), (1, 3), (2, 2)], let d := texd 0 p.1 0 p.2 p.2
      formatOf (Texd.psm d) = some .ct32 ∧ Texd.tbw d ≠ 0 ∧ (Texd.tw d).toNat ≤ 10 ∧ (Texd.th d).toNat ≤ 10) ∧ formatOf (Texd.psm 0) = some .ct32 ∧
    [e] = [] ++ e :: [] ∧ e.content = .surface 1 ∧ e.key.bp = Texd.tbp0 0 ∧ e.key.psm = .ct32 ∧
    (Texd.tbw (texd 0 2 0 3 3) = e.key.bw ∧ 2 ^ 3 = e.width ∧ 2 ^ 3 = e.height) ∧
    (Texd.tbw (texd 0 1 0 3 3) ≠ e.key.bw ∧ e.subs = [] ++ ⟨Texd.tbw (texd 0 1 0 3 3), 2 ^ 3, 2 ^ 3, 2⟩ :: []) ∧
    (2 ^ (Texd.tw (texd 0 2 0 2 2)).toNat ≠ e.width ∧ ∀ x ∈ e.subs, x.w ≠ 2 ^ (Texd.tw (texd 0 2 0 2 2)).toNat) := by
  decide +kernel

theorem find_surfSet (l : List (Nat × Pixels)) (h : Nat) (c : Pixels) :
    (surfSet l (h, c)).find? (fun x => x.1 == h) = some (h, c) := by simp [surfSet]

/-- Texel (0, 0) under another width, where texel (0, 0) alone has its address; the same width in half the size. -/
theorem wit_NewSurfaceHoldsTheRemapOrResample :
    let e := small []
    let p : Pixels := List.replicate 8 (List.replicate 8 7)
    let s := { State.reset with tc := [e], surf := [(1, p)] }
    (e.content = .surface 1 ∧ e.key.bp = Texd.tbp0 0 ∧ e.key.psm = .ct32 ∧ s.tc = [] ++ e :: [] ∧
      s.surf.find? (fun x => x.1 == 1) = some (1, p)) ∧ rowsFill p e.area ∧
    (Texd.tbw (texd 0 1 0 3 3) ≠ e.key.bw ∧ Texd.tbw (texd 0 2 0 2 2) = e.key.bw ∧ 2 ^ 2 ≠ e.width) ∧
    (∀ x1 y1, e.area.has x1 y1 = true → (pixelAddr .ct32 x1 y1 0 2 = pixelAddr .ct32 0 0 0 1 ↔ x1 = 0 ∧ y1 = 0)) ∧
    ∀ d ∈ [texd 0 1 0 3 3, texd 0 2 0 2 2], ∃ t fresh q, exec (.tcalias 0 0 d) s = .next t ∧ t.result = .surface fresh ∧
      t.surf.find? (fun x => x.1 == fresh) = some (fresh, q) := by
  refine ⟨by decide +kernel, ⟨by decide +kernel, by decide +kernel⟩, by decide +kernel, fun x y h => ?_, fun d hd => ?_⟩
  · rw [show (small []).area = ⟨0, 0, 8, 8⟩ by decide] at h
    simp only [Rect.has, Bool.and_eq_true, decide_eq_true_eq] at h
    exact (by decide +kernel : ∀ x < 8, ∀ y < 8,
      (pixelAddr .ct32 x y 0 2 = pixelAddr .ct32 0 0 0 1 ↔ x = 0 ∧ y = 0)) x h.1.1.2 y h.2
  · simp only [List.mem_cons, List.not_mem_nil, or_false] at hd
    rcases hd with rfl | rfl
    all_goals
      exact ⟨_, _, _, rfl, rfl, find_surfSet _ _ _⟩

theorem wit_DropAndPurgeRemoveEntries : formatOf (Texd.psm 0x20) = some .ct32 := by decide +kernel

/-- A target with the base pointer and format, none and room, none and a cache full of textures. -/
theorem wit_TcrtMakesARenderTarget :
    let d : Desc := 0x0000000158004020
    (formatOf (Texd.psm d) = some .ct32 ∧ Texd.tbw d ≠ 0 ∧ (Texd.tw d).toNat ≤ 10 ∧ (Texd.th d).toNat ≤ 10) ∧
    (let e := target 32 0xB 5; [other, e] = [other] ++ e :: [] ∧ other.isRt = false ∧ e.isRt = true ∧
      e.key.bp = Texd.tbp0 d ∧ e.key.psm = .ct32) ∧ State.reset.tc.length ≠ Config.maxEntries ∧
    (∀ e ∈ List.replicate Config.maxEntries other, e = other) ∧
    (List.replicate Config.maxEntries other).length = Config.maxEntries ∧
    List.replicate Config.maxEntries other = [] ++ other :: List.replicate Config.maxEntriesLess1 other := by
  refine ⟨by decide +kernel, by decide +kernel, by simp [State.reset, Config.maxEntries], fun e h =>
    List.eq_of_mem_replicate h, List.length_replicate, ?_⟩
  rw [Config.maxEntries, List.replicate_succ, List.nil_append]

/-- A cache full of render targets has no room for one more. -/
theorem wit_OnlyAFullCacheOfTargetsExhausts :
    ∃ t, exec (.tcrt 0x0000000158004020 7) { State.reset with tc := List.replicate Config.maxEntries (target 0 0xA 0) } =
      .next t ∧ t.status = 0x0300 := by
  refine wit_next ?_
  rw [show ∀ d h s, exec (.tcrt d h) s = execTcrt d h s from fun _ _ _ => rfl]
  have h1 : (List.replicate Config.maxEntries (target 0 0xA 0)).any (isTarget 32 .ct32) = false := by
    rw [List.any_eq_false]; intro e he; rw [List.eq_of_mem_replicate he]; decide
  have h2 : makeRoom (List.replicate Config.maxEntries (target 0 0xA 0)) = none := by
    rw [makeRoom, if_pos List.length_replicate, removeOldest, List.filter_eq_nil_iff.2]
    · rfl
    · intro e he; rw [List.eq_of_mem_replicate he]; decide
  have hf : formatOf (Texd.psm 0x0000000158004020) = some .ct32 := by decide +kernel
  have hb : Texd.tbp0 0x0000000158004020 = 32 := by decide +kernel
  have hc : firstFailure (texdChecks 0x0000000158004020) = none := by decide +kernel
  simp only [execTcrt, hf, State.check, hc, hb, h1, h2]
  rfl

/-- The requests that need room there: a texture wholly in the arena, one with a texel outside it, neither at the base
pointer of a target. -/
theorem wit_OnlyAFullCacheOfTargetsExhausts_room :
    let tc := List.replicate Config.maxEntries (target 0 0xA 0)
    (tc.length = Config.maxEntries ∧ ∀ e ∈ tc, e.isRt = true ∧ e.key.bp = 0) ∧
    (∀ p ∈ [(32, 3), (16383, 4)], let d := texd p.1 1 0 p.2 3
      formatOf (Texd.psm d) = some .ct32 ∧ Texd.tbp0 d ≠ 0 ∧ Texd.tbw d ≠ 0 ∧ (Texd.tw d).toNat ≤ 10 ∧
      (Texd.th d).toNat ≤ 10) ∧
    (requiredRect 0 (2 ^ 3) (2 ^ 3) = ⟨0, 0, 8, 8⟩ ∧ ∀ x < 8, ∀ y < 8, blockAddr .ct32 x y 32 1 < 16384) ∧
    (requiredRect 0 (2 ^ 4) (2 ^ 3)).has 8 0 = true ∧ 16384 ≤ blockAddr .ct32 8 0 16383 1 := by
  refine ⟨⟨List.length_replicate, fun e he => ?_⟩, by decide +kernel, by decide +kernel, by decide +kernel, by decide +kernel⟩
  rw [List.eq_of_mem_replicate he]
  exact ⟨rfl, rfl⟩

/-- The last element of each view and the one after it. -/
theorem wit_ViewReads :
    (4194303 : Word32).toNat < 4194304 ∧ 4194304 ≤ (4194304 : Word32).toNat ∧ (2097151 : Word32).toNat < 2097152 ∧
    2097152 ≤ (2097152 : Word32).toNat ∧ (1048575 : Word32).toNat < 1048576 ∧ 1048576 ≤ (1048576 : Word32).toNat := by
  decide

/-- The same elements as for `ViewReads`. -/
theorem wit_ViewWrites :
    (4194303 : Word32).toNat < 4194304 ∧ 4194304 ≤ (4194304 : Word32).toNat ∧ (2097151 : Word32).toNat < 2097152 ∧
    2097152 ≤ (2097152 : Word32).toNat ∧ (1048575 : Word32).toNat < 1048576 ∧ 1048576 ≤ (1048576 : Word32).toNat :=
  wit_ViewReads

theorem restore_accepts {im : List Byte} {s : State} (h : im.length = imageSize ∧ badCursor im = false) :
    statusOf (exec (.restore im) s) = some 0x0000 := by
  show statusOf (execRestore im s) = _
  rw [execRestore, if_pos h]; rfl

/-- An image with the cursor at the far corner; the refused ones are those of `test_restore_refuses`. -/
theorem wit_RestoreLoadsTheImage :
    let im := List.replicate cursorOffset 0 ++ [1, 0xFF, 0x07, 0xFF, 0x07]
    im.length = 4195333 ∧ badCursor im = false := by
  refine ⟨?_, ?_⟩
  · rw [List.length_append, List.length_replicate]; rfl
  · rw [badCursor_tail]; decide +kernel

theorem wit_SaveAndRestoreAreInverse :
    (Memory.wf [(0, 1), (4194303, 0xFF)] ∧ Cursor.ok ⟨2047, 2047, true⟩ ∧ State.reset.cur.ok) ∧
    ∃ u, exec (.restore (List.replicate cursorOffset 0 ++ [1, 0xFF, 0x07, 0xFF, 0x07])) State.reset = .next u ∧
      u.status = 0x0000 :=
  ⟨⟨by decide +kernel, nofun, fun _ => ⟨rfl, rfl⟩⟩,
    wit_next (restore_accepts ⟨wit_RestoreLoadsTheImage.1, wit_RestoreLoadsTheImage.2⟩)⟩

theorem wit_AllOrNothing : ∃ t, exec (.vmwr8 4194304 1) State.reset = .next t ∧ t.status = 0x0104 :=
  wit_next (by decide +kernel)

theorem wit_OnlyTheseWrite : ∃ t, exec .nop State.reset = .next t ∧ t.status = 0x0000 := wit_next (by decide +kernel)

/-- A state that is not the reset state: a byte listed, a cursor in flight, a cached texture, a failure behind it. -/
theorem wit_EveryStepKeepsTheInvariant :
    let s := ({ State.reset with mem := [(7, 1)], cur := ⟨3, 4, true⟩, tc := [p4Entry []], status := 0x0104 }).withFetchWord
      16 0x4300
    s.Inv ∧ ∃ t, step s = .next t ∧ t.status = 0x0000 := by
  refine ⟨⟨by decide +kernel, nofun, ⟨?_, ?_, ?_⟩, ⟨.cv .oob, rfl⟩⟩, ?_⟩
  · show 1 ≤ Config.maxEntriesLess1 + 1; omega
  · intro e he; rw [List.mem_singleton.1 he]; exact p4Entry_ok
  · exact List.pairwise_singleton _ _
  · exact ⟨_, next_after (by decide +kernel)⟩

end Sys2Proof.Tests
end

section
/-! SUPPORT. All that one instruction can do, as one relation between the state before and the state after: `exec_effect`.
What an instruction leaves unchanged and what every step keeps are read off it. -/

namespace Sys2Proof.Machine

/-- What an instruction makes of `s`: it fails, it answers and writes nothing, or it makes the write of its operation,
with those of its passed checks that keep the write inside GSMEM and the cache well-formed. -/
inductive Effect (s : State) : Instr → State → Prop where
  | fails (i : Instr) (e : Ending) : Effect s i (s.failed e)
  | answers (i : Instr) (r : Result) : Effect s i (s.succeeded r)
  | vmwr8 (idx v : Word32) (hidx : idx.toNat < Config.vmSize) :
    Effect s (.vmwr8 idx v)
      (State.succeeded { s with mem := Memory.write s.mem idx.toNat (v.extractLsb' 0 8) } .none)
  | vmwr16 (idx v : Word32) (hidx : 2 * idx.toNat + 2 ≤ Config.vmSize) :
    Effect s (.vmwr16 idx v)
      (State.succeeded { s with mem := Memory.write16 s.mem (2 * idx.toNat) (v.extractLsb' 0 16) } .none)
  | vmwr32 (idx v : Word32) (hidx : 4 * idx.toNat + 4 ≤ Config.vmSize) :
    Effect s (.vmwr32 idx v) (State.succeeded { s with mem := Memory.write32 s.mem (4 * idx.toNat) v } .none)
  | wrpix (f : Format) (x y : CoordArg) (bp : BasePtr) (bw : BufWidth) (v : Word32)
    (hin : inArena f bp.toNat bw.toNat (x.toNat, y.toNat) = true) :
    Effect s (.wrpixOf f x y bp bw v)
      (State.succeeded { s with mem := writePixel s.mem f x.toNat y.toNat bp.toNat bw.toNat v } .none)
  | swzin (f : Format) (d : Xferd) (resume : Bool) (src : List Byte) (ps : List (Nat × Nat)) (p : Nat × Nat) (r : Result)
    (hin : ps.all (inArena f (xferDbp d).toNat (xferDbw d).toNat) = true) :
    Effect s (.swzinOf f d resume src)
      (State.succeeded
        { s with
          mem := swzinWrite f (xferDbp d).toNat (xferDbw d).toNat src ps 0 s.mem
          cur := cursorAfter p (destWalk d).stop } r)
  | xfermm (d : Xferd) (f g : Format)
    (hin : ∀ o ∈ xferOffsets d, inArena g (xferDbp d).toNat (xferDbw d).toNat (xferDest d o) = true) :
    Effect s (.xfermm d) (State.succeeded { s with mem := (xferOffsets d).foldl (copyPixel f g d) s.mem } .none)
  | clutwr (texd clutd : Desc) (n : Nat) (cpf : Format) :
    Effect s (.clutwr texd clutd) ((clutRebuilt s n cpf texd clutd).succeeded .none)
  | clutrd32 (texd alphad : Desc) (p : Palette) (r : Result) :
    Effect s (.clutrd32 texd alphad) (State.succeeded { s with clut32 := p } r)
  | clutinv : Effect s .clutinv (State.succeeded { s with clutDirty := true } .none)
  | restore (image : List Byte) (hgood : badCursor image = false) :
    Effect s (.restore image) ((restored s image).succeeded .none)
  | fetchTarget (texd alphad clampd : Desc) (f : Format) (a : Aliased) (r : Result) :
    Effect s (.tcfetch texd alphad clampd)
      (State.succeeded
        { s with
          tc := updateFirst (isTarget (Texd.tbp0 texd) f) (fun e => { e with age := 0, subs := a.subs, dirty := [] }) s.tc
          surf := a.surf
          free := a.free } r)
  | fetchHit (texd alphad clampd : Desc) (e : Entry) (dec : Nat → Nat → Word32) (r : Result)
    (he : e ∈ s.tc) (htex : e.isRt = false) :
    Effect s (.tcfetch texd alphad clampd)
      (State.succeeded
        { s with
          tc := updateFirst (isTexture e.key) (fun _ => hitEntry e (requiredRect clampd e.width e.height) dec) s.tc } r)
  | fetchMiss (texd alphad clampd : Desc) (f : Format) (tc : List Entry) (dec : Nat → Nat → Word32) (r : Result)
    (hchecks : ∀ c ∈ texdChecks texd, c.1 = false)
    (hnew : ∀ e ∈ s.tc, isTexture (fetchKey f texd alphad clampd s.clut32) e = false) (hroom : makeRoom s.tc = some tc) :
    Effect s (.tcfetch texd alphad clampd)
      (State.succeeded
        { s with
          tc := tc ++ [newTexture (fetchKey f texd alphad clampd s.clut32)
            (requiredRect clampd (2 ^ (Texd.tw texd).toNat) (2 ^ (Texd.th texd).toNat)) dec] } r)
  | tcinval (bp : BasePtr) (bw : BufWidth) (psm : BitVec 6) (rect : RectArg) (g : Format)
    (hchecks : ∀ c ∈ rectShapeChecks (rectOf rect), c.1 = false) :
    Effect s (.tcinval bp bw psm rect)
      (State.succeeded { s with tc := s.tc.map (markDirty bp bw g (rectOf rect)) } .none)
  | tcalias (keyTexd keyClampd texd : Desc) (f : Format) (a : Aliased) (r : Result) :
    Effect s (.tcalias keyTexd keyClampd texd)
      (State.succeeded
        { s with
          tc := updateFirst (isTarget (Texd.tbp0 keyTexd) f) (fun e => { e with age := 0, subs := a.subs }) s.tc
          surf := a.surf
          free := a.free } r)
  | tcage : Effect s .tcage (State.succeeded { s with tc := ageAndEvict s.tc } .none)
  | tcdrop (keyTexd keyClampd : Desc) (isRt : Bool) (p : Entry → Bool) :
    Effect s (.tcdrop keyTexd keyClampd isRt) (State.succeeded { s with tc := s.tc.filter p } .none)
  | tcpurge : Effect s .tcpurge (State.succeeded { s with tc := [] } .none)
  | tcrtReplace (texd : Desc) (handle : Nat) (f : Format) (hchecks : ∀ c ∈ texdChecks texd, c.1 = false) :
    Effect s (.tcrt texd handle)
      (State.succeeded
        { s with tc := updateFirst (isTarget (Texd.tbp0 texd) f) (fun _ => newTarget f texd handle) s.tc } .none)
  | tcrtAppend (texd : Desc) (handle : Nat) (f : Format) (tc : List Entry)
    (hchecks : ∀ c ∈ texdChecks texd, c.1 = false) (hnew : ∀ e ∈ s.tc, isTarget (Texd.tbp0 texd) f e = false)
    (hroom : makeRoom s.tc = some tc) :
    Effect s (.tcrt texd handle) (State.succeeded { s with tc := tc ++ [newTarget f texd handle] } .none)

/-! ### The ways of ending -/

theorem Effect.of_raise {s t : State} {e : Ending} (i : Instr) (h : s.raise e = .next t) : Effect s i t :=
  (State.raise_next_iff s t e).1 h ▸ .fails i e

theorem Effect.of_answer {s t : State} {r : Result} (i : Instr) (h : s.answer r = .next t) : Effect s i t :=
  (State.answer_next_iff s t r).1 h ▸ .answers i r

/-- A checked operation has the effect of what it goes on with. -/
theorem Effect.of_check {s t : State} {i : Instr} {cs : List (Bool × Cause)} {go : Answer State}
    (h : s.check cs go = .next t) (hgo : (∀ c ∈ cs, c.1 = false) → go = .next t → Effect s i t) : Effect s i t := by
  rcases State.check_cases h with ⟨c, -, hc⟩ | ⟨hp, hg⟩
  · exact Effect.of_raise i (e := .cv c) hc.symm
  · exact hgo hp hg.symm

/-! ### The raw views -/

theorem viewChecks_pass {n : Nat} {idx : Word32} : (∀ c ∈ viewChecks n idx, c.1 = false) ↔ idx.toNat < Config.vmSize / n := by
  simp [viewChecks]

theorem execVmwr8_effect {idx v : Word32} {s t : State} (h : execVmwr8 idx v s = .next t) : Effect s (.vmwr8 idx v) t := by
  refine Effect.of_check h fun hp hg => ?_
  have hidx := viewChecks_pass.1 hp
  exact (State.answer_next_iff ..).1 hg ▸ .vmwr8 idx v (by omega)

theorem execVmwr16_effect {idx v : Word32} {s t : State} (h : execVmwr16 idx v s = .next t) :
    Effect s (.vmwr16 idx v) t := by
  refine Effect.of_check h fun hp hg => ?_
  have hidx := viewChecks_pass.1 hp
  exact (State.answer_next_iff ..).1 hg ▸ .vmwr16 idx v (by omega)

theorem execVmwr32_effect {idx v : Word32} {s t : State} (h : execVmwr32 idx v s = .next t) :
    Effect s (.vmwr32 idx v) t := by
  refine Effect.of_check h fun hp hg => ?_
  have hidx := viewChecks_pass.1 hp
  exact (State.answer_next_iff ..).1 hg ▸ .vmwr32 idx v (by omega)

/-! ### Addresses, pixels and transfers -/

theorem addressOp_effect {value : Nat → Nat → Nat → Nat → Nat} {x y : CoordArg} {bp : BasePtr} {bw : BufWidth}
    {s t : State} (i : Instr) (h : addressOp value x y bp bw s = .next t) : Effect s i t := by
  rcases addressOp_cases h with ⟨-, rfl⟩ | ⟨-, rfl⟩
  · exact .fails _ _
  · exact .answers _ _

theorem wrpix_effect {f : Format} {x y : CoordArg} {bp : BasePtr} {bw : BufWidth} {v : Word32} {s t : State}
    (h : wrpix f x y bp bw v s = .next t) : Effect s (.wrpixOf f x y bp bw v) t := by
  rcases wrpix_cases h with ⟨c, rfl⟩ | ⟨-, hin, rfl⟩
  · exact .fails _ _
  · exact .wrpix f x y bp bw v hin

theorem swzin_effect {f : Format} {d : Xferd} {resume : Bool} {src : List Byte} {s t : State}
    (h : swzin f d resume src s = .next t) : Effect s (.swzinOf f d resume src) t := by
  rcases swzin_cases h with ⟨c, rfl⟩ | ⟨p, -, -, hin, hfrom⟩
  · exact .fails _ _
  · rw [swzinFrom_next hin] at hfrom
    exact Host.Outcome.next.inj hfrom ▸ .swzin f d resume src _ _ _ hin

theorem xfermmChecks_pass_dest {f g : Format} {d : Xferd} (h : ∀ c ∈ xfermmChecks f g d, c.1 = false) :
    ∀ o ∈ xferOffsets d, inArena g (xferDbp d).toNat (xferDbw d).toNat (xferDest d o) = true := by
  simp only [xfermmChecks, List.forall_mem_cons, Bool.not_eq_false', List.all_eq_true, Bool.and_eq_true] at h
  obtain ⟨-, -, -, harena, -⟩ := h
  exact fun o ho => (harena o ho).2

theorem execXfermm_effect {d : Xferd} {s t : State} (h : execXfermm d s = .next t) : Effect s (.xfermm d) t := by
  rcases execXfermm_cases h with ⟨c, rfl⟩ | ⟨f, g, -, -, -, hp, rfl⟩
  · exact .fails _ _
  · exact .xfermm d f g (xfermmChecks_pass_dest hp)

/-! ### The palette and an image -/

theorem execClutwr_effect {texd clutd : Desc} {s t : State} (h : execClutwr texd clutd s = .next t) :
    Effect s (.clutwr texd clutd) t := by
  rcases execClutwr_cases h with ⟨c, rfl⟩ | ⟨n, cpf, -, -, ⟨-, -, rfl⟩ | ⟨-, rfl⟩⟩
  · exact .fails _ _
  · exact .answers _ _
  · exact .clutwr texd clutd n cpf

theorem execClutrd32_effect {texd alphad : Desc} {s t : State} (h : execClutrd32 texd alphad s = .next t) :
    Effect s (.clutrd32 texd alphad) t := by
  rcases execClutrd32_cases h with ⟨c, rfl⟩ | ⟨n, cpf, -, rfl⟩
  · exact .fails _ _
  · exact .clutrd32 texd alphad _ _

theorem execRestore_effect {image : List Byte} {s t : State} (h : execRestore image s = .next t) :
    Effect s (.restore image) t := by
  unfold execRestore at h
  split at h
  · rename_i hgood
    exact (State.answer_next_iff ..).1 h ▸ .restore image hgood.2
  · exact Effect.of_raise _ h

/-! ### The texture cache -/

theorem find_isTexture {k : Key} {tc : List Entry} {e : Entry} (h : tc.find? (isTexture k) = some e) :
    e ∈ tc ∧ e.isRt = false ∧ e.key = k := by
  have he := List.find?_some h
  simp only [isTexture, Bool.and_eq_true, Bool.not_eq_true', decide_eq_true_eq] at he
  exact ⟨List.mem_of_find?_eq_some h, he⟩

theorem execTcfetch_effect {texd alphad clampd : Desc} {s t : State} (h : execTcfetch texd alphad clampd s = .next t) :
    Effect s (.tcfetch texd alphad clampd) t := by
  unfold execTcfetch at h
  split at h
  · exact Effect.of_raise _ h
  · rename_i f hf
    refine Effect.of_check h fun hchecks hg => ?_
    split at hg
    · exact Effect.of_raise _ hg
    · split at hg
      · exact (State.answer_next_iff ..).1 hg ▸ .fetchTarget texd alphad clampd f _ _
      · split at hg
        · rename_i e he
          obtain ⟨hmem, htex, -⟩ := find_isTexture he
          rcases fetchHit_cases hg with ⟨-, rfl⟩ | ⟨-, rfl⟩
          · exact .fails _ _
          · exact .fetchHit texd alphad clampd e _ _ hmem htex
        · rename_i hnew
          rcases fetchMiss_cases hg with ⟨-, rfl⟩ | ⟨-, -, rfl⟩ | ⟨tc, -, hroom, rfl⟩
          · exact .fails _ _
          · exact .fails _ _
          · exact .fetchMiss texd alphad clampd f tc _ _ hchecks (by simpa using hnew) hroom

theorem execTcinval_effect {bp : BasePtr} {bw : BufWidth} {psm : BitVec 6} {rect : RectArg} {s t : State}
    (h : execTcinval bp bw psm rect s = .next t) : Effect s (.tcinval bp bw psm rect) t := by
  unfold execTcinval at h
  split at h
  · exact Effect.of_raise _ h
  · rename_i g hg
    refine Effect.of_check h fun hchecks hgo => ?_
    refine (State.answer_next_iff ..).1 hgo ▸ .tcinval bp bw psm rect g fun c hc => hchecks c ?_
    simp [hc]

theorem execTcalias_effect {keyTexd keyClampd texd : Desc} {s t : State}
    (h : execTcalias keyTexd keyClampd texd s = .next t) : Effect s (.tcalias keyTexd keyClampd texd) t := by
  unfold execTcalias at h
  split at h
  · rename_i f _ hf _
    refine Effect.of_check h fun _ hgo => ?_
    split at hgo
    · exact Effect.of_raise _ hgo
    · exact (State.answer_next_iff ..).1 hgo ▸ .tcalias keyTexd keyClampd texd f _ _
  · exact Effect.of_raise _ h

theorem execTcdrop_effect {keyTexd keyClampd : Desc} {isRt : Bool} {s t : State}
    (h : execTcdrop keyTexd keyClampd isRt s = .next t) : Effect s (.tcdrop keyTexd keyClampd isRt) t := by
  unfold execTcdrop at h
  split at h
  · exact Effect.of_raise _ h
  · exact (State.answer_next_iff ..).1 h ▸ .tcdrop keyTexd keyClampd isRt _

theorem execTcrt_effect {texd : Desc} {handle : Nat} {s t : State} (h : execTcrt texd handle s = .next t) :
    Effect s (.tcrt texd handle) t := by
  unfold execTcrt at h
  split at h
  · exact Effect.of_raise _ h
  · rename_i f hf
    refine Effect.of_check h fun hchecks hgo => ?_
    split at hgo
    · exact (State.answer_next_iff ..).1 hgo ▸ .tcrtReplace texd handle f hchecks
    · rename_i hnew
      split at hgo
      · exact Effect.of_raise _ hgo
      · rename_i tc hroom
        exact (State.answer_next_iff ..).1 hgo ▸ .tcrtAppend texd handle f tc hchecks (by simpa using hnew) hroom

/-! ### Every instruction -/

/-- All that an instruction can do. -/
theorem exec_effect {i : Instr} {s t : State} (h : exec i s = .next t) : Effect s i t := by
  induction i using instr_cases with
  | nop | exp16 | exp24 | save => exact Effect.of_answer _ h
  | vmrd8 | vmrd16 | vmrd32 => exact Effect.of_check h fun _ => Effect.of_answer _
  | vmwr8 => exact execVmwr8_effect h
  | vmwr16 => exact execVmwr16_effect h
  | vmwr32 => exact execVmwr32_effect h
  | clutwr => exact execClutwr_effect h
  | clutrd32 => exact execClutrd32_effect h
  | clutinv => exact (State.answer_next_iff ..).1 h ▸ .clutinv
  | xfermm => exact execXfermm_effect h
  | tcfetch => exact execTcfetch_effect h
  | tcinval => exact execTcinval_effect h
  | tcalias => exact execTcalias_effect h
  | tcage => exact (State.answer_next_iff ..).1 h ▸ .tcage
  | tcdrop => exact execTcdrop_effect h
  | tcpurge => exact (State.answer_next_iff ..).1 h ▸ .tcpurge
  | tcrt => exact execTcrt_effect h
  | restore => exact execRestore_effect h
  | paddr => exact addressOp_effect _ (exec_paddrOf .. ▸ h)
  | baddr => exact addressOp_effect _ (exec_baddrOf .. ▸ h)
  | pgaddr => exact addressOp_effect _ (exec_pgaddrOf .. ▸ h)
  | rdpix =>
    rw [exec_rdpixOf] at h
    exact Effect.of_check h fun _ => Effect.of_answer _
  | wrpix => exact wrpix_effect (exec_wrpixOf .. ▸ h)
  | rdtex =>
    rw [exec_rdtexOf] at h
    exact Effect.of_check h fun _ => Effect.of_answer _
  | swzin => exact swzin_effect (exec_swzinOf .. ▸ h)
  | unswz =>
    rw [exec_unswzOf] at h
    rcases unswz_cases h with ⟨c, rfl⟩ | ⟨e, -, -, -, -, rfl⟩
    · exact .fails _ _
    · exact .answers _ _

end Sys2Proof.Machine
end

section
/-! Which operations write which element of the state. -/

namespace Sys2Proof.Machine

section
variable {s t : State} {i : Instr}

theorem Effect.cur_writers (h : Effect s i t) :
    t.cur = s.cur ∨ (∃ f d r src, i = .swzinOf f d r src) ∨ ∃ im, i = .restore im := by
  cases h with
  | swzin => exact .inr (.inl ⟨_, _, _, _, rfl⟩)
  | restore => exact .inr (.inr ⟨_, rfl⟩)
  | _ => exact .inl (by simp)

theorem Effect.mem_writers (h : Effect s i t) :
    t.mem = s.mem ∨ (∃ f d r src, i = .swzinOf f d r src) ∨ (∃ im, i = .restore im) ∨
      (∃ f x y bp bw v, i = .wrpixOf f x y bp bw v) ∨ (∃ d, i = .xfermm d) ∨
      ∃ idx v, i = .vmwr8 idx v ∨ i = .vmwr16 idx v ∨ i = .vmwr32 idx v := by
  cases h with
  | swzin => exact .inr (.inl ⟨_, _, _, _, rfl⟩)
  | restore => exact .inr (.inr (.inl ⟨_, rfl⟩))
  | wrpix => exact .inr (.inr (.inr (.inl ⟨_, _, _, _, _, _, rfl⟩)))
  | xfermm => exact .inr (.inr (.inr (.inr (.inl ⟨_, rfl⟩))))
  | vmwr8 => exact .inr (.inr (.inr (.inr (.inr ⟨_, _, .inl rfl⟩))))
  | vmwr16 => exact .inr (.inr (.inr (.inr (.inr ⟨_, _, .inr (.inl rfl)⟩))))
  | vmwr32 => exact .inr (.inr (.inr (.inr (.inr ⟨_, _, .inr (.inr rfl)⟩))))
  | _ => exact .inl (by simp)

theorem Effect.clut_writers (h : Effect s i t) :
    t.clut = s.clut ∧ t.clutSnap = s.clutSnap ∨ (∃ im, i = .restore im) ∨ ∃ texd clutd, i = .clutwr texd clutd := by
  cases h with
  | restore => exact .inr (.inl ⟨_, rfl⟩)
  | clutwr => exact .inr (.inr ⟨_, _, rfl⟩)
  | _ => exact .inl (by simp)

theorem Effect.clutDirty_writers (h : Effect s i t) :
    t.clutDirty = s.clutDirty ∨ (∃ im, i = .restore im) ∨ i = .clutinv ∨ ∃ texd clutd, i = .clutwr texd clutd := by
  cases h with
  | restore => exact .inr (.inl ⟨_, rfl⟩)
  | clutinv => exact .inr (.inr (.inl rfl))
  | clutwr => exact .inr (.inr (.inr ⟨_, _, rfl⟩))
  | _ => exact .inl (by simp)

theorem Effect.clut32_writers (h : Effect s i t) :
    t.clut32 = s.clut32 ∨ (∃ im, i = .restore im) ∨ ∃ texd alphad, i = .clutrd32 texd alphad := by
  cases h with
  | restore => exact .inr (.inl ⟨_, rfl⟩)
  | clutrd32 => exact .inr (.inr ⟨_, _, rfl⟩)
  | _ => exact .inl (by simp)

theorem Effect.tc_writers (h : Effect s i t) :
    t.tc = s.tc ∨ (∃ im, i = .restore im) ∨ i = .tcage ∨ i = .tcpurge ∨ (∃ a b c, i = .tcfetch a b c) ∨
      (∃ a b c d, i = .tcinval a b c d) ∨ (∃ a b c, i = .tcalias a b c) ∨ (∃ a b c, i = .tcdrop a b c) ∨
      ∃ a b, i = .tcrt a b := by
  cases h with
  | restore => exact .inr (.inl ⟨_, rfl⟩)
  | tcage => exact .inr (.inr (.inl rfl))
  | tcpurge => exact .inr (.inr (.inr (.inl rfl)))
  | fetchTarget | fetchHit | fetchMiss => exact .inr (.inr (.inr (.inr (.inl ⟨_, _, _, rfl⟩))))
  | tcinval => exact .inr (.inr (.inr (.inr (.inr (.inl ⟨_, _, _, _, rfl⟩)))))
  | tcalias => exact .inr (.inr (.inr (.inr (.inr (.inr (.inl ⟨_, _, _, rfl⟩))))))
  | tcdrop => exact .inr (.inr (.inr (.inr (.inr (.inr (.inr (.inl ⟨_, _, _, rfl⟩)))))))
  | tcrtReplace | tcrtAppend => exact .inr (.inr (.inr (.inr (.inr (.inr (.inr (.inr ⟨_, _, rfl⟩)))))))
  | _ => exact .inl (by simp)

theorem Effect.requests_eq (h : Effect s i t) : t.requests = s.requests := by
  cases h <;> simp

end

/-- Settles O56: every element is written only by the operations whose effect writes it. -/
theorem onlyTheseWrite : Obligations.OnlyTheseWrite := by
  intro i s t h
  have he := exec_effect h
  exact ⟨he.cur_writers, he.mem_writers, he.clut_writers, he.clutDirty_writers, he.clut32_writers, he.tc_writers,
    he.requests_eq⟩

end Sys2Proof.Machine
end

section
/-! SUPPORT. What keeps the cache well-formed. -/

namespace Sys2Proof.Machine

/-! ### The slot of an entry -/

theorem isRt_of_isTarget {bp : BasePtr} {f : Format} {e : Entry} (h : isTarget bp f e = true) : e.isRt = true := by
  simp only [isTarget, Bool.and_eq_true] at h
  exact h.1.1

theorem Entry.ok.dirty_nonempty {e : Entry} (h : e.ok) : ∀ d ∈ e.dirty, d.rect.nonempty := by
  obtain ⟨-, -, -, -, -, hdirty, -⟩ := h
  exact hdirty

/-- What no two entries of the cache have in common: for a texture its key (44_texture_cache.md R332), for a render
target its base pointer and format (R348). -/
def Entry.slot (e : Entry) : Key ⊕ (BasePtr × Format) :=
  if e.isRt then .inr (e.key.bp, e.key.psm) else .inl e.key

theorem Entry.distinct_iff_slot (e g : Entry) : e.distinct g ↔ e.slot ≠ g.slot := by
  unfold Entry.distinct Entry.slot
  cases e.isRt <;> cases g.isRt <;> simp
  -- Two targets: one key makes one base pointer and one format.
  exact fun hne hkey => hne (congrArg Key.bp hkey) (congrArg Key.psm hkey)

theorem isTarget_iff_slot {bp : BasePtr} {f : Format} {e : Entry} : isTarget bp f e = true ↔ e.slot = .inr (bp, f) := by
  unfold isTarget Entry.slot
  cases e.isRt <;> simp

theorem isTexture_iff_slot {k : Key} {e : Entry} : isTexture k e = true ↔ e.slot = .inl k := by
  unfold isTexture Entry.slot
  cases e.isRt <;> simp

/-- Entries are told apart as their slots are. -/
theorem cacheOk_iff_slots {tc : List Entry} :
    cacheOk tc ↔ tc.length ≤ Config.maxEntries ∧ (∀ e ∈ tc, e.ok) ∧ (tc.map Entry.slot).Nodup := by
  rw [List.Nodup, List.pairwise_map, cacheOk]
  simp only [← Entry.distinct_iff_slot]

/-! ### Changes of the list -/

theorem cacheOk_nil : cacheOk [] := ⟨Nat.zero_le _, by simp, List.Pairwise.nil⟩

theorem cacheOk.sublist {tc tc' : List Entry} (h : cacheOk tc) (hs : tc'.Sublist tc) : cacheOk tc' := by
  obtain ⟨hlen, hok, hdist⟩ := h
  exact ⟨hs.length_le.trans hlen, fun e he => hok e (hs.subset he), hdist.sublist hs⟩

theorem cacheOk.map {tc : List Entry} (h : cacheOk tc) {g : Entry → Entry} (hslot : ∀ e, (g e).slot = e.slot)
    (hok : ∀ e, e.ok → (g e).ok) : cacheOk (tc.map g) := by
  obtain ⟨hlen, hall, hdist⟩ := cacheOk_iff_slots.1 h
  refine cacheOk_iff_slots.2 ⟨by simpa using hlen, ?_, by simpa [Function.comp_def, hslot] using hdist⟩
  simpa using fun e he => hok e (hall e he)

theorem cacheOk.updateFirst {tc : List Entry} (h : cacheOk tc) {p : Entry → Bool} {g : Entry → Entry}
    (hslot : ∀ e, p e = true → (g e).slot = e.slot) (hok : ∀ e, p e = true → e.ok → (g e).ok) :
    cacheOk (updateFirst p g tc) := by
  rcases updateFirst_cases p g tc with ⟨-, hu⟩ | ⟨l, e, r, rfl, -, he, hu⟩
  · rwa [hu]
  · rw [hu]
    obtain ⟨hlen, hall, hdist⟩ := cacheOk_iff_slots.1 h
    refine cacheOk_iff_slots.2 ⟨by simpa using hlen, fun x hx => ?_, by simpa [hslot e he] using hdist⟩
    rcases List.mem_append.1 hx with hx | hx
    · exact hall x (by simp [hx])
    · rcases List.mem_cons.1 hx with rfl | hx
      · exact hok e he (hall e (by simp))
      · exact hall x (by simp [hx])

/-- An entry with a slot of its own, put last where there is room. -/
theorem cacheOk.append {tc tc' : List Entry} (h : cacheOk tc) (hroom : makeRoom tc = some tc') {e : Entry} (hok : e.ok)
    (hnew : ∀ x ∈ tc, x.slot ≠ e.slot) : cacheOk (tc' ++ [e]) := by
  have hroom' : tc'.Sublist tc ∧ tc'.length < Config.maxEntries := by
    rcases makeRoom_some hroom with ⟨hne, rfl⟩ | ⟨hfull, l, x, r, rfl, rfl, -⟩
    · exact ⟨List.Sublist.refl _, lt_of_le_of_ne h.1 hne⟩
    · refine ⟨List.Sublist.append_left (List.sublist_cons_self ..) _, ?_⟩
      simp only [List.length_append, List.length_cons] at hfull ⊢
      omega
  obtain ⟨hsub, hlen⟩ := hroom'
  obtain ⟨-, hall, hdist⟩ := cacheOk_iff_slots.1 (h.sublist hsub)
  refine cacheOk_iff_slots.2 ⟨by simpa using hlen, fun x hx => ?_, ?_⟩
  · rcases List.mem_append.1 hx with hx | hx
    · exact hall x hx
    · exact List.mem_singleton.1 hx ▸ hok
  · rw [List.map_append, List.map_singleton, ← List.concat_eq_append]
    refine hdist.concat fun hmem => ?_
    obtain ⟨x, hx, hxe⟩ := List.mem_map.1 hmem
    exact hnew x (hsub.subset hx) hxe

/-! ### Rectangles -/

theorem Rect.union_nonempty {r : Rect} (q : Rect) (h : r.nonempty) : (r.union q).nonempty := by
  obtain ⟨hx, hy⟩ := h
  constructor <;> simp only [Rect.union] <;> omega

theorem Rect.union_within {r q a : Rect} (hr : r.within a) (hq : q.within a) : (r.union q).within a := by
  obtain ⟨hr1, hr2, hr3, hr4⟩ := hr
  obtain ⟨hq1, hq2, hq3, hq4⟩ := hq
  exact ⟨Nat.le_min.2 ⟨hr1, hq1⟩, Nat.le_min.2 ⟨hr2, hq2⟩, Nat.max_le.2 ⟨hr3, hq3⟩, Nat.max_le.2 ⟨hr4, hq4⟩⟩

theorem Rect.within_refl (r : Rect) : r.within r := ⟨le_rfl, le_rfl, le_rfl, le_rfl⟩

theorem rowsFill_tabulate (r : Rect) (g : Nat → Nat → Word32) : rowsFill (r.tabulate g) r :=
  ⟨Rect.tabulate_length r g, Rect.tabulate_row_length⟩

/-- The texels that a clamp mode needs are some, and all of the texture (44_texture_cache.md R338). -/
theorem clampRange_bounds (m : BitVec 2) (lo hi : Nat) {size : Nat} (h : 0 < size) :
    (clampRange m lo hi size).1 < (clampRange m lo hi size).2 ∧ (clampRange m lo hi size).2 ≤ size := by
  have hor : hi ≤ lo ||| hi := Nat.right_le_or
  unfold clampRange
  split
  · split <;> simp only <;> omega
  · split <;> simp only <;> omega
  · exact ⟨h, le_rfl⟩

theorem requiredRect_nonempty (clampd : Desc) {w h : Nat} (hw : 0 < w) (hh : 0 < h) :
    (requiredRect clampd w h).nonempty :=
  ⟨(clampRange_bounds _ _ _ hw).1, (clampRange_bounds _ _ _ hh).1⟩

theorem requiredRect_within (clampd : Desc) {w h : Nat} (hw : 0 < w) (hh : 0 < h) :
    (requiredRect clampd w h).within ⟨0, 0, w, h⟩ :=
  ⟨Nat.zero_le _, Nat.zero_le _, (clampRange_bounds _ _ _ hw).2, (clampRange_bounds _ _ _ hh).2⟩

theorem Entry.area_nonempty (e : Entry) : e.area.nonempty := ⟨Nat.two_pow_pos _, Nat.two_pow_pos _⟩

theorem rectShapeChecks_pass {r : Rect} : (∀ c ∈ rectShapeChecks r, c.1 = false) ↔ r.nonempty := by
  simp only [rectShapeChecks, Rect.nonempty, List.forall_mem_cons, Bool.or_eq_false_iff, decide_eq_false_iff_not,
    List.not_mem_nil, false_imp_iff, implies_true, and_true]
  omega

theorem texdChecks_pass {texd : Desc} :
    (∀ c ∈ texdChecks texd, c.1 = false) ↔
      Texd.tbw texd ≠ 0 ∧ (Texd.tw texd).toNat ≤ Config.maxLog2 ∧ (Texd.th texd).toNat ≤ Config.maxLog2 := by
  simp [texdChecks]

/-! ### Entries as the operations make and change them -/

theorem palSnap_fits (f : Format) (clut32 : Palette) (alphad : Desc) : palSnapFits f (palSnap f clut32 alphad) := by
  cases f <;> simp [palSnap, palSnapFits, fmt, Config.clut32Entries]

theorem newTarget_ok {f : Format} {texd : Desc} (handle : Nat) (h : ∀ c ∈ texdChecks texd, c.1 = false) :
    (newTarget f texd handle).ok := by
  obtain ⟨hbw, htw, hth⟩ := texdChecks_pass.1 h
  exact ⟨hbw, htw, hth, (newTarget f texd handle).area_nonempty, Rect.within_refl _, by simp [newTarget], rfl, rfl, rfl, rfl⟩

theorem newTexture_ok {f : Format} {texd : Desc} (alphad clampd : Desc) (clut32 : Palette) (dec : Nat → Nat → Word32)
    (h : ∀ c ∈ texdChecks texd, c.1 = false) :
    (newTexture (fetchKey f texd alphad clampd clut32)
      (requiredRect clampd (2 ^ (Texd.tw texd).toNat) (2 ^ (Texd.th texd).toNat)) dec).ok := by
  obtain ⟨hbw, htw, hth⟩ := texdChecks_pass.1 h
  exact ⟨hbw, htw, hth, requiredRect_nonempty _ (Nat.two_pow_pos _) (Nat.two_pow_pos _),
    requiredRect_within _ (Nat.two_pow_pos _) (Nat.two_pow_pos _), by simp [newTexture], rowsFill_tabulate _ _,
    palSnap_fits f clut32 alphad, rfl⟩

theorem hitEntry_ok {e : Entry} (h : e.ok) (htex : e.isRt = false) (clampd : Desc) (dec : Nat → Nat → Word32) :
    (hitEntry e (requiredRect clampd e.width e.height) dec).ok := by
  obtain ⟨hbw, htw, hth, hne, hin, -, hkind⟩ := h
  have hbitmap : palSnapFits e.key.psm e.key.palSnap ∧ e.subs = [] := by
    cases hc : e.content with
    | bitmap rows => exact (hc ▸ hkind : _ ∧ _).2
    | surface n => simp [Entry.isRt, hc] at htex
  have hreq := requiredRect_within clampd (Nat.two_pow_pos e.key.tw.toNat) (Nat.two_pow_pos e.key.th.toNat)
  exact ⟨hbw, htw, hth, Rect.union_nonempty _ hne, Rect.union_within hin hreq, by simp [hitEntry], rowsFill_tabulate _ _,
    hbitmap⟩

/-- The sub-surfaces, the dirty rectangles and the age of a render target are free, but for the rectangles' areas. -/
theorem Entry.ok.change_target {e : Entry} (h : e.ok) (hrt : e.isRt = true) (n : Nat) (subs : List SubSurface)
    {dirty : List DirtyRect} (hd : ∀ d ∈ dirty, d.rect.nonempty) :
    ({ e with age := n, subs := subs, dirty := dirty } : Entry).ok := by
  obtain ⟨hbw, htw, hth, hne, hin, -, hkind⟩ := h
  refine ⟨hbw, htw, hth, hne, hin, hd, ?_⟩
  cases hc : e.content with
  | bitmap rows => simp [Entry.isRt, hc] at hrt
  | surface _ =>
    simp only [hc] at hkind ⊢
    exact hkind

theorem dirtyRecord_nonempty (e : Entry) (bp : BasePtr) (bw : BufWidth) (g : Format) {r : Rect} (hr : r.nonempty) :
    (dirtyRecord e bp bw g r).rect.nonempty := by
  unfold dirtyRecord
  split
  · exact hr
  · exact e.area_nonempty

theorem markDirty_ok {e : Entry} (h : e.ok) (bp : BasePtr) (bw : BufWidth) (g : Format) {r : Rect} (hr : r.nonempty) :
    (markDirty bp bw g r e).ok := by
  unfold markDirty
  split
  · obtain ⟨hbw, htw, hth, hne, hin, hdirty, hkind⟩ := h
    refine ⟨hbw, htw, hth, hne, hin, fun d hd => ?_, ?_⟩
    · rcases List.mem_append.1 hd with hd | hd
      · exact hdirty d hd
      · exact List.mem_singleton.1 hd ▸ dirtyRecord_nonempty e bp bw g hr
    · cases hc : e.content with
      | bitmap rows => simpa [hc, Entry.isRt] using hkind
      | surface _ =>
    simp only [hc] at hkind ⊢
    exact hkind
  · exact h

theorem markDirty_slot (bp : BasePtr) (bw : BufWidth) (g : Format) (r : Rect) (e : Entry) :
    (markDirty bp bw g r e).slot = e.slot := by
  unfold markDirty
  split <;> rfl

theorem cacheOk.ageAndEvict {tc : List Entry} (h : cacheOk tc) : cacheOk (ageAndEvict tc) :=
  cacheOk.sublist (h.map (g := Entry.older) (fun _ => rfl) fun _ he => he) (ageAndEvict_sublist tc)

end Sys2Proof.Machine
end

section
/-! The invariant of the core: every effect keeps each of its parts, so every step keeps it. -/

namespace Sys2Proof.Machine

theorem cursorAfter_ok (p stop : Nat × Nat) : (cursorAfter p stop).ok := by
  unfold cursorAfter
  split
  · exact fun _ => ⟨rfl, rfl⟩
  · exact nofun

/-- `RESTORE` takes no image with a position beside an inactive cursor (45_host_ops.md R389). -/
theorem restoredCursor_ok {image : List Byte} (h : badCursor image = false) : (restoredCursor image).ok := by
  intro hinactive
  simp only [badCursor, restoredCursor, Bool.or_eq_false_iff, Bool.and_eq_false_iff, decide_eq_false_iff_not] at h hinactive ⊢
  obtain ⟨⟨⟨ha, -⟩, -⟩, hzero⟩ := h
  have ha1 : (byteAt image cursorOffset).toNat ≠ 1 := fun e => hinactive (BitVec.eq_of_toNat_eq e)
  have hx : imageHalf image (cursorOffset + 1) = 0 := BitVec.eq_of_toNat_eq (by simp; omega)
  have hy : imageHalf image (cursorOffset + 3) = 0 := BitVec.eq_of_toNat_eq (by simp; omega)
  rw [hx, hy]
  exact ⟨rfl, rfl⟩

section
variable {s t : State} {i : Instr}

theorem Effect.mem_wf (h : Effect s i t) (hm : Memory.wf s.mem) : Memory.wf t.mem := by
  cases h with
  | vmwr8 idx v hidx => exact Memory.wf_write hm hidx _
  | vmwr16 idx v hidx => exact Memory.wf_write16 hm hidx _
  | vmwr32 idx v hidx => exact Memory.wf_write32 hm hidx _
  | wrpix f x y bp bw v hin => exact wf_writePixel hm _ hin
  | swzin f d resume src ps p r hin => exact wf_swzinWrite ps 0 hm hin
  | xfermm d f g hin => exact wf_copyPixels _ hm hin
  | restore image => exact Memory.wf_ofBytes (List.length_take_le _ _)
  | _ => simpa using hm

theorem Effect.cur_ok (h : Effect s i t) (hc : s.cur.ok) : t.cur.ok := by
  cases h with
  | swzin => exact cursorAfter_ok _ _
  | restore image hgood => exact restoredCursor_ok hgood
  | _ => simpa using hc

theorem Effect.statusLegal (h : Effect s i t) : t.statusLegal := by
  cases h with
  | fails _ e => exact ⟨e, rfl⟩
  | _ => exact ⟨.ok, rfl⟩

theorem Effect.cacheOk (h : Effect s i t) (hc : cacheOk s.tc) : cacheOk t.tc := by
  cases h with
  | fetchTarget texd alphad clampd f a r =>
    refine hc.updateFirst (fun _ _ => rfl) fun e he hok => ?_
    exact hok.change_target (isRt_of_isTarget he) 0 a.subs (by simp)
  | fetchHit texd alphad clampd e dec r he htex =>
    refine hc.updateFirst (fun x hx => ?_) fun _ _ _ => hitEntry_ok (hc.2.1 e he) htex clampd dec
    rw [isTexture_iff_slot.1 hx]
    rfl
  | fetchMiss texd alphad clampd f tc dec r hchecks hnew hroom =>
    refine hc.append hroom (newTexture_ok alphad clampd s.clut32 dec hchecks) fun x hx hslot => ?_
    exact Bool.false_ne_true ((hnew x hx).symm.trans (isTexture_iff_slot.2 hslot))
  | tcinval bp bw psm rect g hchecks =>
    exact hc.map (markDirty_slot bp bw g _) fun e he => markDirty_ok he bp bw g (rectShapeChecks_pass.1 hchecks)
  | tcalias keyTexd keyClampd texd f a r =>
    refine hc.updateFirst (fun _ _ => rfl) fun e he hok => ?_
    exact hok.change_target (isRt_of_isTarget he) 0 a.subs hok.dirty_nonempty
  | tcrtReplace texd handle f hchecks =>
    refine hc.updateFirst (fun x hx => ?_) fun _ _ _ => newTarget_ok handle hchecks
    rw [isTarget_iff_slot.1 hx]
    rfl
  | tcrtAppend texd handle f tc hchecks hnew hroom =>
    refine hc.append hroom (newTarget_ok handle hchecks) fun x hx hslot => ?_
    exact Bool.false_ne_true ((hnew x hx).symm.trans (isTarget_iff_slot.2 hslot))
  | tcage => exact hc.ageAndEvict
  | tcdrop => exact hc.sublist List.filter_sublist
  | tcpurge | restore => exact cacheOk_nil
  | _ => simpa using hc

/-- Every instruction keeps the invariant. -/
theorem Effect.inv (h : Effect s i t) (hs : s.Inv) : t.Inv := by
  obtain ⟨hmem, hcur, htc, -⟩ := hs
  exact ⟨h.mem_wf hmem, h.cur_ok hcur, h.cacheOk htc, h.statusLegal⟩

end

/-- Taking a request off the port touches nothing that the invariant speaks of. -/
theorem State.Inv.take {s : State} (h : s.Inv) (r : Request) (rest : List Request) : (s.take r rest).Inv := h

/-- Settles O57: the step is idle, refuses a header, or has the effect of an instruction. -/
theorem everyStepKeepsTheInvariant : Obligations.EveryStepKeepsTheInvariant := by
  intro s t hs h
  unfold step at h
  split at h
  · exact Host.Outcome.next.inj h ▸ hs
  · rename_i r rest _
    split at h
    · exact (exec_effect h).inv (hs.take r rest)
    · exact (Effect.of_raise .nop h).inv (hs.take r rest)

/-- Settles O58: nothing is listed, nothing is in flight, nothing is cached. -/
theorem resetMeetsTheInvariant : Obligations.ResetMeetsTheInvariant :=
  ⟨Memory.wf_nil, fun _ => ⟨rfl, rfl⟩, cacheOk_nil, .ok, rfl⟩

/-- Settles O59. -/
theorem resetValues : Obligations.ResetValues := ⟨rfl, rfl, rfl, rfl, rfl⟩

end Sys2Proof.Machine
end

section
/-! Decoding and encoding of requests, and the step that runs what is decoded (30_encoding.md R90 to R95). -/

namespace Sys2Proof

theorem toNat_eq_zero_iff {w : Nat} (v : BitVec w) : v.toNat = 0 ↔ v = 0 := by simp [← BitVec.toNat_inj]

/-! ### The fields of a header -/

/-- A header with zeros in `REQ[7:6]` is its operation code and its format code (30_encoding.md R90). -/
theorem header_of_fields {h : BitVec 16} (hz : headerZero h = 0) : header (headerOp h) (headerPsm h) = h := by
  have hsplit : headerOp h ++ headerZero h ++ headerPsm h = h := by
    refine BitVec.eq_of_getLsbD_eq fun i hi => ?_
    simp only [headerOp, headerZero, headerPsm, BitVec.getLsbD_append, BitVec.getLsbD_extractLsb']
    split
    · simp [*]
    · split
      · simp [*, show 6 + (i - 6) = i by omega]
      · simp [show i - 6 - 2 < 8 by omega, show 8 + (i - 6 - 2) = i by omega]
  rwa [hz] at hsplit

theorem headerOp_toNat (h : BitVec 16) : (headerOp h).toNat = (h >>> 8).toNat := by
  have := h.isLt
  simp only [headerOp, BitVec.extractLsb'_toNat, BitVec.toNat_ushiftRight, Nat.shiftRight_eq_div_pow]
  omega

theorem headerPsm_toNat (h : BitVec 16) : (headerPsm h).toNat = (h &&& 0x3F).toNat := by
  simp only [headerPsm, BitVec.extractLsb'_toNat, BitVec.toNat_and, Nat.shiftRight_zero]
  exact (Nat.and_two_pow_sub_one_eq_mod h.toNat 6).symm

theorem headerZero_eq_zero_iff (h : BitVec 16) : headerZero h = 0 ↔ h >>> 6 &&& 3 = 0 := by
  simp only [BitVec.toNat_eq, headerZero, BitVec.extractLsb'_toNat, BitVec.toNat_and, BitVec.toNat_ushiftRight]
  rw [show (3 : BitVec 16).toNat = 2 ^ 2 - 1 from rfl, Nat.and_two_pow_sub_one_eq_mod]
  rfl

/-! ### The code tables -/

theorem formatOf_eq_some_iff {psm : BitVec 6} {f : Format} : formatOf psm = some f ↔ psm = f.code :=
  ⟨fun h => (code_of_formatOf psm f h).symm, fun h => h ▸ formatOf_code f⟩

/-- The codes of the operations with a format (30_encoding.md R93). -/
abbrev formattedCodes : List Nat := [0x01, 0x02, 0x03, 0x10, 0x11, 0x12, 0x30, 0x31]

/-- The codes of the operations without one (30_encoding.md R93). -/
abbrev plainCodes : List Nat :=
  [0x00, 0x08, 0x09, 0x0A, 0x0C, 0x0D, 0x0E, 0x20, 0x21, 0x28, 0x29, 0x2A, 0x32, 0x40, 0x41, 0x42, 0x43, 0x44, 0x45, 0x46,
    0x50, 0x51]

/-- The codes of the formats (30_encoding.md R95). -/
abbrev formatCodes : List Nat := [0x00, 0x01, 0x02, 0x0A, 0x13, 0x14, 0x1B, 0x24, 0x2C, 0x30, 0x31, 0x32, 0x3A]

theorem isSome_formatOpOf (op : BitVec 8) : (formatOpOf op).isSome ↔ op.toNat ∈ formattedCodes := by
  unfold formatOpOf
  split <;> simp_all

theorem isSome_formatOf (psm : BitVec 6) : (formatOf psm).isSome ↔ psm.toNat ∈ formatCodes := by
  unfold formatOf
  split <;> simp_all

theorem isSome_plainInstr (op : BitVec 8) (o : Operands) : (plainInstr op o).isSome ↔ op.toNat ∈ plainCodes := by
  unfold plainInstr
  split <;> simp_all

/-- No operation code names both an operation with a format and one without. -/
theorem formatOpOf_eq_none_of_plainInstr {op : BitVec 8} {o : Operands} {i : Instr} (h : plainInstr op o = some i) :
    formatOpOf op = none := by
  have hdisjoint : ∀ n ∈ plainCodes, n ∉ formattedCodes := by decide
  rw [← Option.not_isSome_iff_eq_none, isSome_formatOpOf]
  exact hdisjoint _ ((isSome_plainInstr op o).1 (Option.isSome_of_eq_some h))

/-! ### The decoder, case by case -/

section
variable {r : Request}

theorem decode_reservedOp (hop : formatOpOf (headerOp r.header) = none)
    (hplain : plainInstr (headerOp r.header) r.ops = none) : decode r = .error .reservedOp := by
  simp only [decode, hop, hplain]

theorem decode_plain (i : Instr) (hplain : plainInstr (headerOp r.header) r.ops = some i) :
    decode r =
      if headerZero r.header ≠ 0 then .error .headerBits
      else if headerPsm r.header ≠ 0 then .error .strayFormat
      else .ok i := by
  have hop := formatOpOf_eq_none_of_plainInstr hplain
  simp only [decode, hop, hplain]

theorem decode_format_headerBits {op : FormatOp} (hop : formatOpOf (headerOp r.header) = some op)
    (hz : headerZero r.header ≠ 0) : decode r = .error .headerBits := by
  simp only [decode, hop, if_pos hz]

theorem decode_format_badFormat {op : FormatOp} (hop : formatOpOf (headerOp r.header) = some op)
    (hz : headerZero r.header = 0) (hf : formatOf (headerPsm r.header) = none) : decode r = .error .badFormat := by
  simp only [decode, hop, hz, hf, ne_eq, not_true_eq_false, if_false]

theorem decode_format_ok {op : FormatOp} {f : Format} (hop : formatOpOf (headerOp r.header) = some op)
    (hz : headerZero r.header = 0) (hf : formatOf (headerPsm r.header) = some f) :
    decode r = .ok (op.instr f r.ops) := by
  simp only [decode, hop, hz, hf, ne_eq, not_true_eq_false, if_false]

/-- All that can decode: an operation with a format, under a legal format code, or one without, under the code 0. -/
theorem decode_ok_cases {i : Instr} (h : decode r = .ok i) :
    (∃ (op : FormatOp) (f : Format), r.header = header op.code f.code ∧ i = op.instr f r.ops) ∨
      ∃ op, r.header = header op 0 ∧ plainInstr op r.ops = some i := by
  unfold decode at h
  split at h
  · rename_i op hop
    split at h
    · cases h
    · rename_i hz
      split at h
      · cases h
      · rename_i f hf
        refine .inl ⟨op, f, ?_, (Except.ok.inj h).symm⟩
        rw [code_of_formatOpOf _ _ hop, code_of_formatOf _ _ hf, header_of_fields (not_not.1 hz)]
  · split at h
    · cases h
    · rename_i j hplain
      split at h
      · cases h
      · rename_i hz
        split at h
        · cases h
        · rename_i hpsm
          refine .inr ⟨headerOp r.header, ?_, hplain.trans (congrArg some (Except.ok.inj h))⟩
          rw [← not_not.1 hpsm, header_of_fields (not_not.1 hz)]

end

/-! ### The encoder, operation by operation -/

theorem encode_paddrOf (f : Format) (x y : CoordArg) (bp : BasePtr) (bw : BufWidth) :
    encode (.paddrOf f x y bp bw) = formatRequest .paddr f (pixelOperands x y bp bw) := by cases f <;> rfl

theorem encode_baddrOf (f : Format) (x y : CoordArg) (bp : BasePtr) (bw : BufWidth) :
    encode (.baddrOf f x y bp bw) = formatRequest .baddr f (pixelOperands x y bp bw) := by cases f <;> rfl

theorem encode_pgaddrOf (f : Format) (x y : CoordArg) (bp : BasePtr) (bw : BufWidth) :
    encode (.pgaddrOf f x y bp bw) = formatRequest .pgaddr f (pixelOperands x y bp bw) := by cases f <;> rfl

theorem encode_rdpixOf (f : Format) (x y : CoordArg) (bp : BasePtr) (bw : BufWidth) :
    encode (.rdpixOf f x y bp bw) = formatRequest .rdpix f (pixelOperands x y bp bw) := by cases f <;> rfl

theorem encode_wrpixOf (f : Format) (x y : CoordArg) (bp : BasePtr) (bw : BufWidth) (v : Word32) :
    encode (.wrpixOf f x y bp bw v) = formatRequest .wrpix f { pixelOperands x y bp bw with v := v } := by
  cases f <;> rfl

theorem encode_rdtexOf (f : Format) (x y : CoordArg) (bp : BasePtr) (bw : BufWidth) (alphad : Desc) :
    encode (.rdtexOf f x y bp bw alphad) = formatRequest .rdtex f { pixelOperands x y bp bw with alphad := alphad } := by
  cases f <;> rfl

theorem encode_swzinOf (f : Format) (xferd : Xferd) (resume : Bool) (src : List Byte) :
    encode (.swzinOf f xferd resume src) = formatRequest .swzin f (swzinOperands xferd resume src) := by cases f <;> rfl

theorem encode_unswzOf (f : Format) (rect : RectArg) (bp : BasePtr) (bw : BufWidth) (mode : BitVec 2) (alphad : Desc)
    (pitch : Word32) :
    encode (.unswzOf f rect bp bw mode alphad pitch) =
      formatRequest .unswz f (unswzOperands rect bp bw mode alphad pitch) := by cases f <;> rfl

/-! ### Decode after encode -/

theorem decode_formatRequest (op : FormatOp) (f : Format) (o : Operands) :
    decode (formatRequest op f o) = .ok (op.instr f o) :=
  decode_format_ok (by simp [formatRequest, request]) (by simp [formatRequest, request])
    (by simp [formatRequest, request])

theorem decode_plainRequest {op : BitVec 8} {o : Operands} {i : Instr} (h : plainInstr op o = some i) :
    decode (request op 0 o) = .ok i := by
  rw [decode_plain i (by simpa [request] using h)]
  simp [request]

/-- The stream that the encoder presents is the whole buffer when its `length` operand can count it
(43_swizzle_engine.md R290). -/
theorem swzinOperands_stream (xferd : Xferd) (resume : Bool) {src : List Byte} (h : srcFits src = true) :
    (swzinOperands xferd resume src).stream = src := by
  have hlen : src.length < 2 ^ 32 := by simpa [srcFits] using h
  simp only [Operands.stream, swzinOperands, BitVec.toNat_ofNat, Nat.mod_eq_of_lt hlen, List.take_length]

/-- Settles O1: the encoder writes the code tables' own codes, and the operands it fills in are those the decoder reads. -/
theorem decodeOfEncode : Obligations.DecodeOfEncode := by
  intro i hi
  induction i using Machine.instr_cases with
  | paddr f x y bp bw => rw [encode_paddrOf]; exact decode_formatRequest ..
  | baddr f x y bp bw => rw [encode_baddrOf]; exact decode_formatRequest ..
  | pgaddr f x y bp bw => rw [encode_pgaddrOf]; exact decode_formatRequest ..
  | rdpix f x y bp bw => rw [encode_rdpixOf]; exact decode_formatRequest ..
  | wrpix f x y bp bw v => rw [encode_wrpixOf]; exact decode_formatRequest ..
  | rdtex f x y bp bw alphad => rw [encode_rdtexOf]; exact decode_formatRequest ..
  | swzin f xferd resume src =>
    rw [Machine.wf_swzinOf] at hi
    rw [encode_swzinOf, decode_formatRequest, FormatOp.instr, swzinOperands_stream xferd resume hi]
    rfl
  | unswz f rect bp bw mode alphad pitch => rw [encode_unswzOf]; exact decode_formatRequest ..
  | _ => exact decode_plainRequest rfl

/-! ### Encode after decode -/

theorem encode_instr_header (op : FormatOp) (f : Format) (o : Operands) :
    (encode (op.instr f o)).header = header op.code f.code := by
  cases op with
  | paddr => exact congrArg Request.header (encode_paddrOf ..)
  | baddr => exact congrArg Request.header (encode_baddrOf ..)
  | pgaddr => exact congrArg Request.header (encode_pgaddrOf ..)
  | rdpix => exact congrArg Request.header (encode_rdpixOf ..)
  | wrpix => exact congrArg Request.header (encode_wrpixOf ..)
  | rdtex => exact congrArg Request.header (encode_rdtexOf ..)
  | swzin => exact congrArg Request.header (encode_swzinOf ..)
  | unswz => exact congrArg Request.header (encode_unswzOf ..)

/-- What a request presents of a stream is counted by its `length` operand. -/
theorem srcFits_stream (o : Operands) : srcFits o.stream = true := by
  have hlen : o.stream.length ≤ o.length.toNat := by simp [Operands.stream]
  simpa [srcFits] using lt_of_le_of_lt hlen o.length.isLt

theorem instr_wf (op : FormatOp) (f : Format) (o : Operands) : (op.instr f o).wf = true := by
  cases op with
  | swzin => exact (Machine.wf_swzinOf ..).trans (srcFits_stream o)
  | _ => cases f <;> rfl

theorem encode_header_of_plainInstr {op : BitVec 8} {o : Operands} {i : Instr} (h : plainInstr op o = some i) :
    (encode i).header = header op 0 ∧ i.wf = true := by
  have hcode : op = BitVec.ofNat 8 op.toNat := by simp
  unfold plainInstr at h
  split at h
  case h_23 => cases h
  all_goals
    rename_i hop
    rw [hop] at hcode
    obtain rfl := hcode
    cases h
    exact ⟨rfl, rfl⟩

/-- Settles O2: the two ways to decode, each read back by the encoder. -/
theorem headerOfDecode : Obligations.HeaderOfDecode := by
  intro r i h
  rcases decode_ok_cases h with ⟨op, f, hheader, rfl⟩ | ⟨op, hheader, hplain⟩
  · exact ⟨(encode_instr_header op f r.ops).trans hheader.symm, instr_wf op f r.ops⟩
  · obtain ⟨hencode, hwf⟩ := encode_header_of_plainInstr hplain
    exact ⟨hencode.trans hheader.symm, hwf⟩

/-- Settles O3: a header is its three fields, and each table is read at its code. -/
theorem headersOfTheOperationMap : Obligations.HeadersOfTheOperationMap := by
  intro o surf
  have plain {op : BitVec 8} {i : Instr} (h : plainInstr op o = some i) : decode ⟨header op 0, o, surf⟩ = .ok i := by
    rw [decode_plain i (by simpa using h)]
    simp
  have formatted (op : FormatOp) (f : Format) : decode ⟨header op.code f.code, o, surf⟩ = .ok (op.instr f o) :=
    decode_format_ok (by simp) (by simp) (by simp)
  exact ⟨plain (op := 0x00) rfl, formatted .paddr .t8, formatted .rdpix .z16s, plain (op := 0x21) rfl,
    plain (op := 0x29) rfl, formatted .swzin .t4hl, plain (op := 0x42) rfl, plain (op := 0x0E) rfl⟩

end Sys2Proof

namespace Sys2Proof.Machine

/-! ### The step -/

section
variable {s : State} {r : Request} {rest : List Request}

theorem step_idle (h : s.requests = []) : step s = .next s := by
  unfold step
  rw [h]

theorem step_of_decode_ok {i : Instr} (h : s.requests = r :: rest) (hd : decode r = .ok i) :
    step s = exec i (s.take r rest) := by
  unfold step
  rw [h]
  simp only [hd]

theorem step_of_decode_error {e : DecodeError} (h : s.requests = r :: rest) (hd : decode r = .error e) :
    step s = .next ((s.take r rest).failed (.cv (decodeCause e))) := by
  unfold step
  rw [h]
  simp only [hd]
  rfl

end

/-- Settles O5: the port holds a request that decodes, or none. -/
theorem stepRunsTheDecodedRequest : Obligations.StepRunsTheDecodedRequest :=
  ⟨fun _ _ _ _ h hd => step_of_decode_ok h hd, fun _ h => step_idle h⟩

/-- Settles O4: the statement's fields are the decoder's, its lists are where the decoder's tables answer, and each clause
is one case of the decoder. -/
theorem refusedHeaders : Obligations.RefusedHeaders := by
  intro s r rest h
  simp only [← headerOp_toNat, ← headerPsm_toNat, ne_eq, ← headerZero_eq_zero_iff, toNat_eq_zero_iff,
    ← isSome_plainInstr _ r.ops, ← isSome_formatOpOf, ← isSome_formatOf]
  simp only [Option.not_isSome_iff_eq_none]
  simp only [Option.isSome_iff_exists]
  refine ⟨?_, ?_, ?_, ?_, ?_, ?_⟩
  · rintro ⟨hplain, hop⟩
    exact step_of_decode_error h (decode_reservedOp hop hplain)
  · rintro (⟨i, hplain⟩ | ⟨op, hop⟩) hz
    · exact step_of_decode_error h ((decode_plain i hplain).trans (if_pos hz))
    · exact step_of_decode_error h (decode_format_headerBits hop hz)
  · rintro ⟨i, hplain⟩ hz hpsm
    exact step_of_decode_error h ((decode_plain i hplain).trans ((if_neg (not_not.2 hz)).trans (if_pos hpsm)))
  · rintro ⟨op, hop⟩ hz hf
    exact step_of_decode_error h (decode_format_badFormat hop hz hf)
  · rintro ⟨i, hplain⟩ hz hpsm
    exact ⟨i, by simp [decode_plain i hplain, hz, hpsm]⟩
  · rintro ⟨op, hop⟩ hz ⟨f, hf⟩
    exact ⟨_, decode_format_ok hop hz hf⟩

end Sys2Proof.Machine
end

section
/-! The checks that stand before a transfer or a rectangle, each list of checks read as one value: the cause of the first
that fails, if any (60_exceptions.md R407). -/

namespace Sys2Proof.Machine

/-! ### Lists of checks -/

theorem firstFailure_cons (bad : Bool) (c : Cause) (rest : List (Bool × Cause)) :
    firstFailure ((bad, c) :: rest) = if bad then some c else firstFailure rest := rfl

theorem firstFailure_nil : firstFailure [] = none := rfl

/-- The checks of a list pass: what follows them decides. -/
theorem State.check_eq_go {s : State} {cs : List (Bool × Cause)} {go : Answer State} (h : firstFailure cs = none) :
    s.check cs go = go :=
  State.check_pass ((firstFailure_eq_none cs).1 h)

/-! ### The descriptor of a transfer -/

/-- 30_encoding.md R105: the area, then the direction and the raster order. -/
theorem firstFailure_xferChecks (d : Xferd) (dir : BitVec 2) :
    firstFailure (xferChecks d dir) =
      if (xferRrw d).toNat = 0 ∨ (xferRrh d).toNat = 0 then some .zeroArea
      else if xferXdir d ≠ dir ∨ xferDir d ≠ 0 then some .badDir
      else none := by
  simp only [toNat_eq_zero_iff, xferChecks, firstFailure_cons, firstFailure_nil, Bool.or_eq_true, decide_eq_true_eq]
  split_ifs <;> simp_all

theorem xferPasses_iff (d : Xferd) (x y : Coord) :
    xferPasses d x y = true ↔ 2048 < x.toNat + (xferRrw d).toNat ∨ 2048 < y.toNat + (xferRrh d).toNat := by
  rw [xferPasses, Bool.or_eq_true, decide_eq_true_eq, decide_eq_true_eq, Config.coordLimit_eq]

/-- 43_swizzle_engine.md R290: the descriptor's own checks, then the format, the bound and the width. -/
theorem firstFailure_swzinChecks (f : Format) (d : Xferd) :
    firstFailure (swzinChecks f d) =
      (firstFailure (xferChecks d 0)).or
        (if xferDpsm d ≠ f.code then some .badPsm
        else if 2048 < (xferDsax d).toNat + (xferRrw d).toNat ∨ 2048 < (xferDsay d).toNat + (xferRrh d).toNat then some .oob
        else if xferDbw d = 0 then some .badBw
        else none) := by
  simp only [swzinChecks, firstFailure_append, firstFailure_cons, firstFailure_nil, ne_eq, formatOf_eq_some_iff,
    decide_eq_true_eq, xferPasses_iff]

/-- 43_swizzle_engine.md R328: the bounds of both rectangles, their widths, the elements' width, the arena. -/
theorem firstFailure_xfermmChecks (f g : Format) (d : Xferd) :
    firstFailure (xfermmChecks f g d) =
      if xferPasses d (xferSsax d) (xferSsay d) = true ∨ xferPasses d (xferDsax d) (xferDsay d) = true then some .oob
      else if xferSbw d = 0 ∨ xferDbw d = 0 then some .badBw
      else if (fmt f).trbpp ≠ (fmt g).trbpp then some .badPsm
      else if ∀ o ∈ xferOffsets d, inArena f (xferSbp d).toNat (xferSbw d).toNat (xferSource d o) = true ∧
        inArena g (xferDbp d).toNat (xferDbw d).toNat (xferDest d o) = true then none
      else some .oob := by
  simp only [xfermmChecks, firstFailure_cons, firstFailure_nil, Bool.or_eq_true, decide_eq_true_eq, Bool.not_eq_true',
    ← Bool.not_eq_true, List.all_eq_true, Bool.and_eq_true, ite_not]

/-! ### How `SWZIN` and `XFERMM` fail a check -/

section
variable {f : Format} {d : Xferd} {resume : Bool} {src : List Byte} {s : State}

theorem exec_swzin_fails (c : Cause) (h : firstFailure (swzinChecks f d) = some c) :
    exec (.swzinOf f d resume src) s = .next (s.failed (.cv c)) :=
  (exec_swzinOf ..).trans (State.check_fail h)

theorem execXfermm_fails_first (c : Cause) (h : firstFailure (xferChecks d 2) = some c) :
    execXfermm d s = .next (s.failed (.cv c)) :=
  State.check_fail h

theorem execXfermm_badPsm (h : firstFailure (xferChecks d 2) = none)
    (hf : formatOf (xferSpsm d) = none ∨ formatOf (xferDpsm d) = none) :
    execXfermm d s = .next (s.failed (.cv .badPsm)) := by
  unfold execXfermm
  rw [State.check_eq_go h]
  split
  · simp_all
  · rfl

theorem execXfermm_fails (c : Cause) {g g' : Format} (h : firstFailure (xferChecks d 2) = none)
    (hg : formatOf (xferSpsm d) = some g) (hg' : formatOf (xferDpsm d) = some g')
    (hc : firstFailure (xfermmChecks g g' d) = some c) : execXfermm d s = .next (s.failed (.cv c)) := by
  unfold execXfermm
  rw [State.check_eq_go h, hg, hg']
  exact State.check_fail hc

end

/-- Settles O28: each clause is one branch of a list of checks. -/
theorem transferChecks : Obligations.TransferChecks := by
  intro f d resume src s swz mm w h passes dstPasses srcPasses
  refine ⟨fun harea => ?_, fun hw hh => ⟨fun hdir => ?_, fun hdir => ?_, fun hx hd => ?_, fun hx hd => ?_⟩⟩
  · have hfirst (dir : BitVec 2) : firstFailure (xferChecks d dir) = some .zeroArea := by
      rw [firstFailure_xferChecks, if_pos harea]
    refine ⟨exec_swzin_fails .zeroArea ?_, execXfermm_fails_first .zeroArea (hfirst 2)⟩
    rw [firstFailure_swzinChecks, hfirst, Option.some_or]
  all_goals have harea : ¬(w = 0 ∨ h = 0) := not_or.2 ⟨hw, hh⟩
  · refine exec_swzin_fails .badDir ?_
    rw [firstFailure_swzinChecks, firstFailure_xferChecks, if_neg harea, if_pos hdir, Option.some_or]
  · refine execXfermm_fails_first .badDir ?_
    rw [firstFailure_xferChecks, if_neg harea, if_pos hdir]
  · have hfirst : firstFailure (xferChecks d 0) = none := by
      rw [firstFailure_xferChecks, if_neg harea, if_neg (by simp [hx, hd])]
    refine ⟨fun hpsm => exec_swzin_fails .badPsm ?_, fun hpsm hdst => exec_swzin_fails .oob ?_,
      fun hpsm hdst hbw => exec_swzin_fails .badBw ?_⟩ <;> rw [firstFailure_swzinChecks, hfirst, Option.none_or]
    · rw [if_pos hpsm]
    · rw [if_neg (not_not.2 hpsm), if_pos hdst]
    · rw [if_neg (not_not.2 hpsm), if_neg hdst, if_pos hbw]
  · have hfirst : firstFailure (xferChecks d 2) = none := by
      rw [firstFailure_xferChecks, if_neg harea, if_neg (by simp [hx, hd])]
    refine ⟨execXfermm_badPsm hfirst, fun g g' hg hg' => ⟨fun hp => execXfermm_fails .oob hfirst hg hg' ?_,
      fun hsrc hdst hbw => execXfermm_fails .badBw hfirst hg hg' ?_,
      fun hsrc hdst hsbw hdbw hbits => execXfermm_fails .badPsm hfirst hg hg' ?_⟩⟩ <;>
        simp only [firstFailure_xfermmChecks, xferPasses_iff]
    · rw [if_pos hp]
    · rw [if_neg (not_or.2 ⟨hsrc, hdst⟩), if_pos hbw]
    · rw [if_neg (not_or.2 ⟨hsrc, hdst⟩), if_neg (not_or.2 ⟨hsbw, hdbw⟩), if_pos hbits]

end Sys2Proof.Machine
end

section
/-! The checks of the operations that take a `rect` operand. -/

namespace Sys2Proof.Machine

/-! ### The arena check as a bound on the block -/

/-- A pixel's unit lies in the arena exactly when its block is a block of GSMEM (20_memory.md R62, 40_address_translator.md
R148). -/
theorem inArena_iff_blockAddr (f : Format) (x y bp bw : Nat) :
    inArena f bp bw (x, y) = true ↔ blockAddr f x y bp bw < 16384 := by
  have hcol := colEntry_lt f (y % (fmt f).bkh) (x % (fmt f).bkw)
  have hunits : unitsPerBlock f * (fmt f).cls.bits = 2048 := unitsPerBlock_mul_bits f
  unfold inArena inBounds unitByte unitBytes pixelAddr Config.vmSize
  cases hc : (fmt f).cls <;> simp only [hc, StorageClass.bits, decide_eq_true_eq] at hunits ⊢
  · rw [show unitsPerBlock f = 64 by omega] at hcol ⊢
    omega
  · rw [show unitsPerBlock f = 128 by omega] at hcol ⊢
    omega
  · rw [show unitsPerBlock f = 256 by omega] at hcol ⊢
    omega
  · rw [show unitsPerBlock f = 512 by omega] at hcol ⊢
    omega

/-! ### The checks of a `rect` operand -/

/-- The order, the area and the bound of a rectangle, and then what else is checked (30_encoding.md R110,
43_swizzle_engine.md R284). -/
theorem firstFailure_rectChecks (r : Rect) (rest : List (Bool × Cause)) :
    firstFailure (rectShapeChecks r ++ rectBoundCheck r :: rest) =
      if r.right < r.left ∨ r.bottom < r.top then some .badRect
      else if r.left = r.right ∨ r.top = r.bottom then some .zeroArea
      else if 2048 < r.right ∨ 2048 < r.bottom then some .oob
      else firstFailure rest := by
  simp only [rectShapeChecks, rectBoundCheck, List.cons_append, List.nil_append, firstFailure_cons, Bool.or_eq_true,
    decide_eq_true_eq]
  rfl

/-- 43_swizzle_engine.md R296: which modes a format has, and the width of an element in each. -/
theorem modeWidth_eq (f : Format) (mode : BitVec 2) :
    modeWidth f mode =
      if mode = 3 ∨ mode = 2 ∧ (fmt f).pal = 0 then none
      else some (if mode = 0 then (fmt f).trbpp else if mode = 1 then 32 else 8) := by
  have hmode : mode = 0 ∨ mode = 1 ∨ mode = 2 ∨ mode = 3 := by
    revert mode
    decide
  rcases hmode with rfl | rfl | rfl | rfl <;> simp [modeWidth]

/-! ### How `UNSWZ` and `TCINVAL` fail a check -/

section
variable {f : Format} {rect : RectArg} {bp : BasePtr} {bw : BufWidth} {psm : BitVec 6} {mode : BitVec 2} {alphad : Desc}
  {pitch : Word32} {s : State}

theorem exec_unswz_fails (c : Cause) (h : firstFailure (unswzChecks (rectOf rect) bw) = some c) :
    exec (.unswzOf f rect bp bw mode alphad pitch) s = .next (s.failed (.cv c)) :=
  (exec_unswzOf ..).trans (State.check_fail h)

theorem exec_unswz_badMode (h : firstFailure (unswzChecks (rectOf rect) bw) = none) (hm : modeWidth f mode = none) :
    exec (.unswzOf f rect bp bw mode alphad pitch) s = .next (s.failed (.cv .badMode)) := by
  rw [exec_unswzOf, unswz, State.check_eq_go h]
  simp only [hm]
  rfl

theorem exec_unswz_badPitch {e : Nat} (h : firstFailure (unswzChecks (rectOf rect) bw) = none)
    (hm : modeWidth f mode = some e)
    (hpitch : pitch.toNat < ceilDiv (((rectOf rect).right - (rectOf rect).left) * e) 8) :
    exec (.unswzOf f rect bp bw mode alphad pitch) s = .next (s.failed (.cv .badPitch)) := by
  rw [exec_unswzOf, unswz, State.check_eq_go h]
  simp only [hm]
  exact State.check_fail (by simp [firstFailure_cons, hpitch])

theorem exec_unswz_oob {e x y : Nat} (h : firstFailure (unswzChecks (rectOf rect) bw) = none)
    (hm : modeWidth f mode = some e)
    (hpitch : ceilDiv (((rectOf rect).right - (rectOf rect).left) * e) 8 ≤ pitch.toNat)
    (hin : (rectOf rect).has x y = true) (hout : 16384 ≤ blockAddr f x y bp.toNat bw.toNat) :
    exec (.unswzOf f rect bp bw mode alphad pitch) s = .next (s.failed (.cv .oob)) := by
  have hall : (rectOf rect).pixels.all (inArena f bp.toNat bw.toNat) = false := by
    rw [List.all_eq_false]
    refine ⟨(x, y), (Rect.mem_pixels ..).2 hin, ?_⟩
    rwa [inArena_iff_blockAddr, not_lt]
  rw [exec_unswzOf, unswz, State.check_eq_go h]
  simp only [hm]
  exact State.check_fail (by simp [firstFailure_cons, hpitch, hall])

theorem execTcinval_badPsm (hpsm : formatOf psm = none) :
    execTcinval bp bw psm rect s = .next (s.failed (.cv .badPsm)) := by
  unfold execTcinval
  rw [hpsm]
  rfl

theorem execTcinval_badBw (hpsm : formatOf psm ≠ none) (hbw : bw = 0) :
    execTcinval bp bw psm rect s = .next (s.failed (.cv .badBw)) := by
  obtain ⟨g, hg⟩ := Option.ne_none_iff_exists'.1 hpsm
  unfold execTcinval
  rw [hg]
  exact State.check_fail (by simp [firstFailure_cons, hbw])

theorem execTcinval_fails (c : Cause) (hpsm : formatOf psm ≠ none) (hbw : bw ≠ 0)
    (h : firstFailure (rectShapeChecks (rectOf rect) ++ [rectBoundCheck (rectOf rect)]) = some c) :
    execTcinval bp bw psm rect s = .next (s.failed (.cv c)) := by
  obtain ⟨g, hg⟩ := Option.ne_none_iff_exists'.1 hpsm
  unfold execTcinval
  rw [hg]
  exact State.check_fail (by rwa [List.cons_append, firstFailure_cons, decide_eq_false hbw])

/-- A bad rectangle is refused by both operations alike, by `TCINVAL` once its format and its width are legal. -/
theorem unswz_tcinval_fail_of_rect (c : Cause)
    (h : ∀ rest, firstFailure (rectShapeChecks (rectOf rect) ++ rectBoundCheck (rectOf rect) :: rest) = some c) :
    exec (.unswzOf f rect bp bw mode alphad pitch) s = .next (s.failed (.cv c)) ∧
      (formatOf psm ≠ none ∧ bw ≠ 0 → exec (.tcinval bp bw psm rect) s = .next (s.failed (.cv c))) :=
  ⟨exec_unswz_fails c (h _), fun ⟨hpsm, hbw⟩ => execTcinval_fails c hpsm hbw (h [])⟩

end

/-- Settles O30: each clause is one branch of the checks on the rectangle, or a check that follows them. -/
theorem rectangleChecks : Obligations.RectangleChecks := by
  intro f rect bp bw psm mode alphad pitch s unswz inval l t r b legal badMode e
  have hchecks (rest : List (Bool × Cause)) :
      firstFailure (rectShapeChecks (rectOf rect) ++ rectBoundCheck (rectOf rect) :: rest) =
        if r < l ∨ b < t then some .badRect
        else if l = r ∨ t = b then some .zeroArea
        else if 2048 < r ∨ 2048 < b then some .oob
        else firstFailure rest := firstFailure_rectChecks (rectOf rect) rest
  refine ⟨execTcinval_badPsm, execTcinval_badBw, fun horder => ?_, fun hx hy harea => ?_, fun hx hy hbound => ?_,
    fun hx hy hr hb => ?_⟩
  · exact unswz_tcinval_fail_of_rect .badRect fun rest => by rw [hchecks, if_pos horder]
  · have horder : ¬(r < l ∨ b < t) := by omega
    exact unswz_tcinval_fail_of_rect .zeroArea fun rest => by rw [hchecks, if_neg horder, if_pos harea]
  · have horder : ¬(r < l ∨ b < t) := by omega
    have harea : ¬(l = r ∨ t = b) := by omega
    exact unswz_tcinval_fail_of_rect .oob fun rest => by rw [hchecks, if_neg horder, if_neg harea, if_pos hbound]
  · have hwidth : firstFailure (unswzChecks (rectOf rect) bw) = if bw = 0 then some .badBw else none := by
      have horder : ¬(r < l ∨ b < t) := by omega
      have harea : ¬(l = r ∨ t = b) := by omega
      have hbound : ¬(2048 < r ∨ 2048 < b) := by omega
      rw [unswzChecks, hchecks, if_neg horder, if_neg harea, if_neg hbound, firstFailure_cons, firstFailure_nil]
      simp only [decide_eq_true_eq]
    have hpass (hbw : bw ≠ 0) : firstFailure (unswzChecks (rectOf rect) bw) = none := hwidth.trans (if_neg hbw)
    have hmode (hm : ¬badMode) : modeWidth f mode = some e := (modeWidth_eq f mode).trans (if_neg hm)
    refine ⟨fun hbw => exec_unswz_fails .badBw (hwidth.trans (if_pos hbw)),
      fun hbw hm => exec_unswz_badMode (hpass hbw) ((modeWidth_eq f mode).trans (if_pos hm)),
      fun hbw hm hpitch => exec_unswz_badPitch (hpass hbw) (hmode hm) hpitch,
      fun hbw hm hpitch ⟨x, y, hlx, hxr, hty, hyb, hout⟩ => ?_⟩
    exact exec_unswz_oob (hpass hbw) (hmode hm) hpitch ((Rect.has_iff ..).2 ⟨hlx, hxr, hty, hyb⟩) hout

end Sys2Proof.Machine
end

section
/-! The address operations (40_address_translator.md R148, R149): their answers, and PADDR as a numbering. Each block table
numbers the blocks of a page and each column table the units of a block, so a pixel address holds the page, the block and
the unit of its pixel as the digits of one number. -/

namespace Sys2Proof.Machine

/-! ### Tables as numberings of a grid -/

/-- Different cells of the grid of `rows` by `cols` cells have different numbers in `g`. -/
def InjOnGrid (g : Nat → Nat → Nat) (rows cols : Nat) : Prop :=
  ∀ r < rows, ∀ c < cols, ∀ r' < rows, ∀ c' < cols, g r c = g r' c' → r = r' ∧ c = c'

theorem InjOnGrid.xor {g : Nat → Nat → Nat} {rows cols : Nat} (h : InjOnGrid g rows cols) (k : Nat) :
    InjOnGrid (fun r c => g r c ^^^ k) rows cols :=
  fun r hr c hc r' hr' c' hc' heq => h r hr c hc r' hr' c' hc' (Nat.xor_left_inj.1 heq)

/-- As many numbers as cells: every number is that of a cell. -/
theorem InjOnGrid.exists_cell {g : Nat → Nat → Nat} {rows cols n : Nat} (hinj : InjOnGrid g rows cols)
    (hlt : ∀ r c, g r c < n) (hcard : rows * cols = n) {k : Nat} (hk : k < n) :
    ∃ r < rows, ∃ c < cols, g r c = k := by
  have hmaps : ∀ p ∈ Finset.range rows ×ˢ Finset.range cols, g p.1 p.2 ∈ Finset.range n :=
    fun p _ => Finset.mem_range.2 (hlt p.1 p.2)
  obtain ⟨⟨r, c⟩, hcell, hg⟩ := Finset.surj_on_of_inj_on_of_card_le (fun (p : Nat × Nat) _ => g p.1 p.2) hmaps
    (fun p p' hp hp' heq => by
      rw [Finset.mem_product, Finset.mem_range, Finset.mem_range] at hp hp'
      exact Prod.ext_iff.2 (hinj _ hp.1 _ hp.2 _ hp'.1 _ hp'.2 heq))
    (by simp [hcard]) k (Finset.mem_range.2 hk)
  rw [Finset.mem_product, Finset.mem_range, Finset.mem_range] at hcell
  exact ⟨r, hcell.1, c, hcell.2, hg.symm⟩

/-! ### A table's entry as its binary digits -/

theorem eq_of_bitAt_eq {k m n : Nat} (hm : m < 2 ^ k) (hn : n < 2 ^ k) (h : ∀ i : Fin k, bitAt m i = bitAt n i) :
    m = n := by
  refine Nat.eq_of_testBit_eq fun i => ?_
  rcases lt_or_ge i k with hi | hi
  · rw [Nat.testBit_eq_decide_div_mod_eq, Nat.testBit_eq_decide_div_mod_eq]
    exact congrArg (fun b => decide (b = 1)) (h ⟨i, hi⟩)
  · have hle : 2 ^ k ≤ 2 ^ i := Nat.pow_le_pow_right (by decide) hi
    rw [Nat.testBit_lt_two_pow (hm.trans_le hle), Nat.testBit_lt_two_pow (hn.trans_le hle)]

theorem bitAt_le_one (n k : Nat) : bitAt n k ≤ 1 := Nat.le_of_lt_succ (bitAt_lt n k)

/-- The one digit of `COL8` and `COL4` that mixes row and column (40_address_translator.md R144, R145). -/
def mixedBit (r c : Nat) : Nat := bitAt c 2 ^^^ bitAt r 1 ^^^ bitAt r 2

theorem mixedBit_le_one (r c : Nat) : mixedBit r c ≤ 1 :=
  Nat.le_of_lt_succ <|
    Nat.xor_lt_two_pow (n := 1) (Nat.xor_lt_two_pow (n := 1) (bitAt_lt ..) (bitAt_lt ..)) (bitAt_lt ..)

/-- Where the row is known, the mixed digit gives bit 2 of the column. -/
theorem bitAt_two_of_mixedBit_eq {r c r' c' : Nat} (hr1 : bitAt r 1 = bitAt r' 1) (hr2 : bitAt r 2 = bitAt r' 2)
    (h : mixedBit r c = mixedBit r' c') : bitAt c 2 = bitAt c' 2 := by
  rw [mixedBit, mixedBit, hr1, hr2] at h
  exact Nat.xor_left_inj.1 (Nat.xor_left_inj.1 h)

/-- A table whose entries have binary digits that give every bit of the row and of the column tells the cells apart. -/
theorem InjOnGrid.of_digits {g : Nat → Nat → Nat} {p q : Nat} (digits : Nat → Nat → List Nat)
    (hg : ∀ r c, g r c = Nat.ofDigits 2 (digits r c)) (hbit : ∀ r c, ∀ b ∈ digits r c, b < 2)
    (hlen : ∀ r c r' c', (digits r c).length = (digits r' c').length)
    (hall : ∀ r c r' c', digits r c = digits r' c' →
      (∀ k : Fin p, bitAt r k = bitAt r' k) ∧ (∀ k : Fin q, bitAt c k = bitAt c' k)) : InjOnGrid g (2 ^ p) (2 ^ q) := by
  intro r hr c hc r' hr' c' hc' h
  have hdigits : digits r c = digits r' c' :=
    Nat.ofDigits_inj_of_len_eq (by decide) (hlen ..) (hbit r c) (hbit r' c') (by rw [← hg, ← hg, h])
  obtain ⟨hrow, hcol⟩ := hall r c r' c' hdigits
  exact ⟨eq_of_bitAt_eq hr hr' hrow, eq_of_bitAt_eq hc hc' hcol⟩

/-! ### The block tables and the column tables (40_address_translator.md R136 to R145) -/

theorem blk32_injOnGrid : InjOnGrid blk32 (2 ^ 2) (2 ^ 3) := by
  refine .of_digits (fun j i => [bitAt i 0, bitAt j 0, bitAt i 1, bitAt j 1, bitAt i 2])
    (fun j i => ?_) (by simp [bitAt_le_one]) (by simp) (fun j i j' i' => ?_)
  · simp only [blk32, Nat.ofDigits_cons, Nat.ofDigits_nil]
    omega
  · simp +contextual [Fin.forall_fin_succ]

theorem blk16_injOnGrid : InjOnGrid blk16 (2 ^ 3) (2 ^ 2) := by
  refine .of_digits (fun j i => [bitAt j 0, bitAt i 0, bitAt j 1, bitAt i 1, bitAt j 2])
    (fun j i => ?_) (by simp [bitAt_le_one]) (by simp) (fun j i j' i' => ?_)
  · simp only [blk16, Nat.ofDigits_cons, Nat.ofDigits_nil]
    omega
  · simp +contextual [Fin.forall_fin_succ]

theorem blk16s_injOnGrid : InjOnGrid blk16s (2 ^ 3) (2 ^ 2) := by
  refine .of_digits (fun j i => [bitAt j 0, bitAt i 0, bitAt j 2, bitAt j 1, bitAt i 1])
    (fun j i => ?_) (by simp [bitAt_le_one]) (by simp) (fun j i j' i' => ?_)
  · simp only [blk16s, Nat.ofDigits_cons, Nat.ofDigits_nil]
    omega
  · simp +contextual [Fin.forall_fin_succ]

/-- The blocks of a page have different places in it (40_address_translator.md R134). -/
theorem blkEntry_injOnGrid (f : Format) :
    InjOnGrid (blkEntry (fmt f).blk) ((fmt f).ph / (fmt f).bkh) ((fmt f).pw / (fmt f).bkw) := by
  cases f with
  | ct32 | ct24 | t8 | t8h | t4hl | t4hh => exact blk32_injOnGrid
  | z32 | z24 => exact blk32_injOnGrid.xor 24
  | ct16 | t4 => exact blk16_injOnGrid
  | ct16s => exact blk16s_injOnGrid
  | z16 => exact blk16_injOnGrid.xor 24
  | z16s => exact blk16s_injOnGrid.xor 24

theorem col32_injOnGrid : InjOnGrid (colEntry .col32) (2 ^ 3) (2 ^ 3) := by
  refine .of_digits (fun r c => [bitAt c 0, bitAt r 0, bitAt c 1, bitAt c 2, bitAt r 1, bitAt r 2])
    (fun r c => ?_) (by simp [bitAt_le_one]) (by simp) (fun r c r' c' => ?_)
  · simp only [colEntry, Nat.ofDigits_cons, Nat.ofDigits_nil]
    omega
  · simp +contextual [Fin.forall_fin_succ]

theorem col16_injOnGrid : InjOnGrid (colEntry .col16) (2 ^ 3) (2 ^ 4) := by
  refine .of_digits (fun r c => [bitAt c 3, bitAt c 0, bitAt r 0, bitAt c 1, bitAt c 2, bitAt r 1, bitAt r 2])
    (fun r c => ?_) (by simp [bitAt_le_one]) (by simp) (fun r c r' c' => ?_)
  · simp only [colEntry, Nat.ofDigits_cons, Nat.ofDigits_nil]
    omega
  · simp +contextual [Fin.forall_fin_succ]

theorem col8_injOnGrid : InjOnGrid (colEntry .col8) (2 ^ 4) (2 ^ 4) := by
  refine .of_digits
    (fun r c => [bitAt r 1, bitAt c 3, bitAt c 0, bitAt r 0, bitAt c 1, mixedBit r c, bitAt r 2, bitAt r 3])
    (fun r c => ?_) (by simp [bitAt_le_one, mixedBit_le_one]) (by simp) (fun r c r' c' h => ?_)
  · simp only [colEntry, Nat.ofDigits_cons, Nat.ofDigits_nil, mixedBit]
    omega
  · simp only [List.cons.injEq] at h
    obtain ⟨hr1, hc3, hc0, hr0, hc1, hmixed, hr2, hr3, -⟩ := h
    have hc2 := bitAt_two_of_mixedBit_eq hr1 hr2 hmixed
    simp [Fin.forall_fin_succ, *]

theorem col4_injOnGrid : InjOnGrid (colEntry .col4) (2 ^ 4) (2 ^ 5) := by
  refine .of_digits
    (fun r c => [bitAt r 1, bitAt c 3, bitAt c 4, bitAt c 0, bitAt r 0, bitAt c 1, mixedBit r c, bitAt r 2, bitAt r 3])
    (fun r c => ?_) (by simp [bitAt_le_one, mixedBit_le_one]) (by simp) (fun r c r' c' h => ?_)
  · simp only [colEntry, Nat.ofDigits_cons, Nat.ofDigits_nil, mixedBit]
    omega
  · simp only [List.cons.injEq] at h
    obtain ⟨hr1, hc3, hc4, hc0, hr0, hc1, hmixed, hr2, hr3, -⟩ := h
    have hc2 := bitAt_two_of_mixedBit_eq hr1 hr2 hmixed
    simp [Fin.forall_fin_succ, *]

/-- The pixels of a block have different places in it (40_address_translator.md R135). -/
theorem colEntry_injOnGrid (f : Format) : InjOnGrid (colEntry (fmt f).col) (fmt f).bkh (fmt f).bkw := by
  cases f with
  | ct32 | ct24 | t8h | t4hl | t4hh | z32 | z24 => exact col32_injOnGrid
  | ct16 | ct16s | z16 | z16s => exact col16_injOnGrid
  | t8 => exact col8_injOnGrid
  | t4 => exact col4_injOnGrid

/-! ### The measures of a page -/

theorem bkw_pos (f : Format) : 0 < (fmt f).bkw := by cases f <;> decide
theorem bkh_pos (f : Format) : 0 < (fmt f).bkh := by cases f <;> decide
theorem bkw_dvd_pw (f : Format) : (fmt f).bkw ∣ (fmt f).pw := by cases f <;> decide
theorem bkh_dvd_ph (f : Format) : (fmt f).bkh ∣ (fmt f).ph := by cases f <;> decide
theorem pw_pos (f : Format) : 0 < (fmt f).pw := by cases f <;> decide
theorem ph_pos (f : Format) : 0 < (fmt f).ph := by cases f <;> decide

/-- A page lies in the range of the coordinates. -/
theorem page_le_coordRange (f : Format) : (fmt f).pw ≤ 2 ^ 12 ∧ (fmt f).ph ≤ 2 ^ 12 := by cases f <;> decide

theorem blocks_of_page (f : Format) :
    (fmt f).ph / (fmt f).bkh * ((fmt f).pw / (fmt f).bkw) = Config.blocksPerPage := by cases f <;> rfl

theorem units_of_block (f : Format) : (fmt f).bkh * (fmt f).bkw = unitsPerBlock f := Nat.mul_comm ..

/-! ### The digits of an address -/

/-- The high and the low digit of a number in base `n`. -/
theorem eq_of_mul_add_eq {n q q' r r' : Nat} (hr : r < n) (hr' : r' < n) (h : q * n + r = q' * n + r') :
    q = q' ∧ r = r' := by
  have hdivmod {a b : Nat} (hb : b < n) : (a * n + b) / n = a ∧ (a * n + b) % n = b :=
    (Nat.div_mod_unique (Nat.zero_lt_of_lt hb)).2 ⟨by ring, hb⟩
  have hleft := hdivmod (a := q) hr
  rw [h] at hleft
  have hright := hdivmod (a := q') hr'
  exact ⟨hleft.1.symm.trans hright.1, hleft.2.symm.trans hright.2⟩

/-- A coordinate is known from its page, its block in the page and its place in the block. -/
theorem eq_of_digits_eq {a b page blk : Nat} (hdvd : blk ∣ page) (hpage : a / page = b / page)
    (hblk : a % page / blk = b % page / blk) (hplace : a % blk = b % blk) : a = b := by
  rw [← Nat.mod_mod_of_dvd a hdvd, ← Nat.mod_mod_of_dvd b hdvd] at hplace
  have hinPage : a % page = b % page := by
    rw [← Nat.div_add_mod (a % page) blk, ← Nat.div_add_mod (b % page) blk, hblk, hplace]
  rw [← Nat.div_add_mod a page, ← Nat.div_add_mod b page, hpage, hinPage]

section
variable {f : Format} {x y x' y' bp bw : Nat}

/-- Left of the right edge a page of the buffer has one index (40_address_translator.md R148). -/
theorem page_eq_of_pageIndex_eq (hx : x < pagesPerRow f bw * (fmt f).pw) (hx' : x' < pagesPerRow f bw * (fmt f).pw)
    (h : pageIndex f x y bw = pageIndex f x' y' bw) : y / (fmt f).ph = y' / (fmt f).ph ∧ x / (fmt f).pw = x' / (fmt f).pw :=
  eq_of_mul_add_eq ((Nat.div_lt_iff_lt_mul (pw_pos f)).2 hx) ((Nat.div_lt_iff_lt_mul (pw_pos f)).2 hx') h

/-- A block address holds the page and the block's cell in it. -/
theorem digits_of_blockAddr_eq (h : blockAddr f x y bp bw = blockAddr f x' y' bp bw) :
    pageIndex f x y bw = pageIndex f x' y' bw ∧
      y % (fmt f).ph / (fmt f).bkh = y' % (fmt f).ph / (fmt f).bkh ∧
      x % (fmt f).pw / (fmt f).bkw = x' % (fmt f).pw / (fmt f).bkw := by
  have hrow (y : Nat) : y % (fmt f).ph / (fmt f).bkh < (fmt f).ph / (fmt f).bkh :=
    Nat.div_lt_div_of_lt_of_dvd (bkh_dvd_ph f) (Nat.mod_lt y (ph_pos f))
  have hcol (x : Nat) : x % (fmt f).pw / (fmt f).bkw < (fmt f).pw / (fmt f).bkw :=
    Nat.div_lt_div_of_lt_of_dvd (bkw_dvd_pw f) (Nat.mod_lt x (pw_pos f))
  have hinBuffer : pageIndex f x y bw * Config.blocksPerPage
        + blkEntry (fmt f).blk (y % (fmt f).ph / (fmt f).bkh) (x % (fmt f).pw / (fmt f).bkw) =
      pageIndex f x' y' bw * Config.blocksPerPage
        + blkEntry (fmt f).blk (y' % (fmt f).ph / (fmt f).bkh) (x' % (fmt f).pw / (fmt f).bkw) := by
    unfold blockAddr at h
    linarith
  obtain ⟨hpage, hentry⟩ := eq_of_mul_add_eq (blkEntry_lt ..) (blkEntry_lt ..) hinBuffer
  exact ⟨hpage, blkEntry_injOnGrid f _ (hrow y) _ (hcol x) _ (hrow y') _ (hcol x') hentry⟩

/-- A pixel address holds the block address and the pixel's cell in the block. -/
theorem digits_of_pixelAddr_eq (h : pixelAddr f x y bp bw = pixelAddr f x' y' bp bw) :
    blockAddr f x y bp bw = blockAddr f x' y' bp bw ∧
      y % (fmt f).bkh = y' % (fmt f).bkh ∧ x % (fmt f).bkw = x' % (fmt f).bkw := by
  obtain ⟨hblock, hentry⟩ := eq_of_mul_add_eq (colEntry_lt f _ _) (colEntry_lt f _ _) h
  exact ⟨hblock, colEntry_injOnGrid f _ (Nat.mod_lt y (bkh_pos f)) _ (Nat.mod_lt x (bkw_pos f))
    _ (Nat.mod_lt y' (bkh_pos f)) _ (Nat.mod_lt x' (bkw_pos f)) hentry⟩

/-- Pixels of one buffer with one address are one pixel (40_address_translator.md R149 (e)). -/
theorem pixelAddr_inj (hx : x < pagesPerRow f bw * (fmt f).pw) (hx' : x' < pagesPerRow f bw * (fmt f).pw)
    (h : pixelAddr f x y bp bw = pixelAddr f x' y' bp bw) : x = x' ∧ y = y' := by
  obtain ⟨hblock, hrow, hcol⟩ := digits_of_pixelAddr_eq h
  obtain ⟨hindex, hblkRow, hblkCol⟩ := digits_of_blockAddr_eq hblock
  obtain ⟨hpageRow, hpageCol⟩ := page_eq_of_pageIndex_eq hx hx' hindex
  exact ⟨eq_of_digits_eq (bkw_dvd_pw f) hpageCol hblkCol hcol, eq_of_digits_eq (bkh_dvd_ph f) hpageRow hblkRow hrow⟩

/-- In the first page the block address is the base and the block's place (40_address_translator.md R148). -/
theorem blockAddr_of_first_page (hx : x < (fmt f).pw) (hy : y < (fmt f).ph) :
    blockAddr f x y bp bw = bp + blkEntry (fmt f).blk (y / (fmt f).bkh) (x / (fmt f).bkw) := by
  simp [blockAddr, pageIndex, Nat.div_eq_of_lt, Nat.mod_eq_of_lt, hx, hy]

/-- The pixels of the first page have the units of 32 blocks from the base as their addresses
(40_address_translator.md R149 (f)). -/
theorem pixelAddr_image (f : Format) (bp bw n : Nat) :
    (bp * unitsPerBlock f ≤ n ∧ n < (bp + Config.blocksPerPage) * unitsPerBlock f) ↔
      ∃ x y, x < (fmt f).pw ∧ y < (fmt f).ph ∧ pixelAddr f x y bp bw = n := by
  constructor
  · rintro ⟨hlo, hhi⟩
    have hupb : 0 < unitsPerBlock f := Nat.mul_pos (bkw_pos f) (bkh_pos f)
    have hblk : bp ≤ n / unitsPerBlock f := (Nat.le_div_iff_mul_le hupb).2 hlo
    have hblk' : n / unitsPerBlock f < bp + Config.blocksPerPage := (Nat.div_lt_iff_lt_mul hupb).2 hhi
    obtain ⟨j, hj, i, hi, hentry⟩ := (blkEntry_injOnGrid f).exists_cell (blkEntry_lt _) (blocks_of_page f)
      (show n / unitsPerBlock f - bp < Config.blocksPerPage by omega)
    obtain ⟨r, hr, c, hc, hunit⟩ := (colEntry_injOnGrid f).exists_cell (colEntry_lt f) (units_of_block f)
      (Nat.mod_lt n hupb)
    obtain ⟨hydiv, hymod⟩ : (r + (fmt f).bkh * j) / (fmt f).bkh = j ∧ (r + (fmt f).bkh * j) % (fmt f).bkh = r :=
      (Nat.div_mod_unique (bkh_pos f)).2 ⟨rfl, hr⟩
    obtain ⟨hxdiv, hxmod⟩ : (c + (fmt f).bkw * i) / (fmt f).bkw = i ∧ (c + (fmt f).bkw * i) % (fmt f).bkw = c :=
      (Nat.div_mod_unique (bkw_pos f)).2 ⟨rfl, hc⟩
    have hy := Nat.lt_of_div_lt_div (hydiv.trans_lt hj)
    have hx := Nat.lt_of_div_lt_div (hxdiv.trans_lt hi)
    refine ⟨c + (fmt f).bkw * i, r + (fmt f).bkh * j, hx, hy, ?_⟩
    rw [pixelAddr, blockAddr_of_first_page hx hy, hydiv, hxdiv, hymod, hxmod, hentry, hunit, Nat.add_sub_cancel' hblk,
      Nat.div_add_mod']
  · rintro ⟨x, y, hx, hy, rfl⟩
    have hunit := colEntry_lt f (y % (fmt f).bkh) (x % (fmt f).bkw)
    have hentry := blkEntry_lt (fmt f).blk (y / (fmt f).bkh) (x / (fmt f).bkw)
    rw [pixelAddr, blockAddr_of_first_page hx hy]
    constructor
    · exact (Nat.mul_le_mul_right _ (Nat.le_add_right ..)).trans (Nat.le_add_right ..)
    · calc (bp + blkEntry (fmt f).blk (y / (fmt f).bkh) (x / (fmt f).bkw)) * unitsPerBlock f +
            colEntry (fmt f).col (y % (fmt f).bkh) (x % (fmt f).bkw)
          < (bp + blkEntry (fmt f).blk (y / (fmt f).bkh) (x / (fmt f).bkw) + 1) * unitsPerBlock f := by
            rw [Nat.add_one_mul]; omega
        _ ≤ (bp + Config.blocksPerPage) * unitsPerBlock f := Nat.mul_le_mul_right _ (by omega)

end

/-! ### The answers of the address operations -/

section
variable {value : Nat → Nat → Nat → Nat → Nat} {x y x' y' : CoordArg} {bp : BasePtr} {bw : BufWidth} {s : State}

theorem addressOp_eq_index (hbw : bw ≠ 0) :
    addressOp value x y bp bw s = .next (s.succeeded (.index (value x.toNat y.toNat bp.toNat bw.toNat))) :=
  if_neg hbw

theorem addressOp_next_index_iff (hbw : bw ≠ 0) {n : Nat} :
    addressOp value x y bp bw s = .next (s.succeeded (.index n)) ↔ value x.toNat y.toNat bp.toNat bw.toNat = n := by
  rw [addressOp_eq_index hbw]
  constructor
  · intro h
    have hresult := congrArg State.result (Host.Outcome.next.inj h)
    simpa using hresult
  · rintro rfl
    rfl

end

/-- Settles O6: the model's values are the formulas, and a width that is not zero passes the one check. -/
theorem addressOperations : Obligations.AddressOperations := by
  intro f x y bp bw s hbw
  rw [exec_paddrOf, exec_baddrOf, exec_pgaddrOf]
  exact ⟨addressOp_eq_index hbw, addressOp_eq_index hbw, addressOp_eq_index hbw⟩

/-- Settles O8: equal answers carry equal pixel addresses, which are those of one pixel. -/
theorem paddrIsInjective : Obligations.PaddrIsInjective := by
  intro f x y x' y' bp bw s hbw width hx hx' h
  rw [exec_paddrOf, exec_paddrOf] at h
  have haddr := (addressOp_next_index_iff hbw).1 (h.trans (addressOp_eq_index hbw))
  obtain ⟨hxx, hyy⟩ := pixelAddr_inj hx hx' haddr
  exact ⟨BitVec.eq_of_toNat_eq hxx, BitVec.eq_of_toNat_eq hyy⟩

/-- Settles O9: every coordinate of a page is an operand, and its answer is its pixel address. -/
theorem pageImage : Obligations.PageImage := by
  intro f bp bw s n hbw
  refine (pixelAddr_image f bp.toNat bw.toNat n).trans ?_
  simp only [exec_paddrOf]
  constructor
  · rintro ⟨x, y, hx, hy, hn⟩
    obtain ⟨hpw, hph⟩ := page_le_coordRange f
    have hxNat : (BitVec.ofNat 12 x).toNat = x := (BitVec.toNat_ofNat ..).trans (Nat.mod_eq_of_lt (hx.trans_le hpw))
    have hyNat : (BitVec.ofNat 12 y).toNat = y := (BitVec.toNat_ofNat ..).trans (Nat.mod_eq_of_lt (hy.trans_le hph))
    refine ⟨BitVec.ofNat 12 x, BitVec.ofNat 12 y, hxNat.symm ▸ hx, hyNat.symm ▸ hy, (addressOp_next_index_iff hbw).2 ?_⟩
    rw [hxNat, hyNat, hn]
  · rintro ⟨x, y, hx, hy, h⟩
    exact ⟨x.toNat, y.toNat, hx, hy, (addressOp_next_index_iff hbw).1 h⟩

/-! ### A buffer width of zero -/

theorem addressOp_zero (value : Nat → Nat → Nat → Nat → Nat) (x y : CoordArg) (bp : BasePtr) (s : State) :
    addressOp value x y bp 0 s = .next (s.failed (.cv .badBw)) := if_pos rfl

/-- The width is the first check of a pixel operation. -/
theorem check_pixelChecks_zero (f : Format) (x y : CoordArg) (bp : BasePtr) (s : State) (go : Answer State) :
    s.check (pixelChecks f x y bp 0) go = .next (s.failed (.cv .badBw)) := State.check_fail rfl

/-- Settles O7: the width is the first check of all six operations. -/
theorem zeroWidthIsRefused : Obligations.ZeroWidthIsRefused := by
  intro f x y bp v alphad s refused
  rw [exec_paddrOf, exec_baddrOf, exec_pgaddrOf, exec_rdpixOf, exec_wrpixOf, exec_rdtexOf]
  exact ⟨addressOp_zero .., addressOp_zero .., addressOp_zero .., check_pixelChecks_zero .., check_pixelChecks_zero ..,
    check_pixelChecks_zero ..⟩

end Sys2Proof.Machine
end

section
/-! SUPPORT. GSMEM as a row of bits, bit `k` of byte `b` being bit `8 * b + k` (40_address_translator.md R189), and the
pixel read and write said in these bits. -/

namespace Sys2Proof.Machine

/-! ### The bits of GSMEM -/

/-- Bit `n` of GSMEM, in the count in which `footBit` places a pixel. -/
def Memory.bit (m : Memory) (n : Nat) : Bool := (Memory.read m (n / 8)).getLsbD (n % 8)

theorem Memory.getLsbD_read (m : Memory) (a k : Nat) :
    (Memory.read m a).getLsbD k = (decide (k < 8) && Memory.bit m (8 * a + k)) := by
  by_cases hk : k < 8
  · simp [Memory.bit, hk, show (8 * a + k) / 8 = a by omega, show (8 * a + k) % 8 = k by omega]
  · rw [BitVec.getLsbD_of_ge _ k (Nat.not_lt.1 hk), decide_eq_false hk, Bool.false_and]

theorem Memory.getLsbD_read16 (m : Memory) (a k : Nat) :
    (Memory.read16 m a).getLsbD k = (decide (k < 16) && Memory.bit m (8 * a + k)) := by
  rw [Memory.read16, BitVec.getLsbD_append, Memory.getLsbD_read, Memory.getLsbD_read]
  by_cases hk : k < 8
  · simp [hk, show k < 16 by omega]
  · simp [hk, show 8 * (a + 1) + (k - 8) = 8 * a + k by omega, show k - 8 < 8 ↔ k < 16 by omega]

theorem Memory.getLsbD_read32 (m : Memory) (a k : Nat) :
    (Memory.read32 m a).getLsbD k = (decide (k < 32) && Memory.bit m (8 * a + k)) := by
  rw [Memory.read32, BitVec.getLsbD_append, Memory.getLsbD_read16, Memory.getLsbD_read16]
  by_cases hk : k < 16
  · simp [hk, show k < 32 by omega]
  · simp [hk, show 8 * (a + 2) + (k - 16) = 8 * a + k by omega, show k - 16 < 16 ↔ k < 32 by omega]

theorem Memory.bit_write (m : Memory) (a : Nat) (v : Byte) (n : Nat) :
    Memory.bit (Memory.write m a v) n =
      if 8 * a ≤ n ∧ n < 8 * a + 8 then v.getLsbD (n - 8 * a) else Memory.bit m n := by
  rw [Memory.bit, Memory.read_write]
  by_cases h : n / 8 = a
  · rw [if_pos h, if_pos (by omega), show n % 8 = n - 8 * a by omega]
  · rw [if_neg h, if_neg (by omega), Memory.bit]

/-- The two halves of a unit, written at bit `lo` and bit `lo + h`, make up the unit (20_memory.md R64). -/
theorem bit_of_halves {w : Nat} (v : BitVec w) (lo h n : Nat) (old : Bool) :
    (if lo + h ≤ n ∧ n < lo + h + h then (v.extractLsb' h h).getLsbD (n - (lo + h))
      else if lo ≤ n ∧ n < lo + h then (v.extractLsb' 0 h).getLsbD (n - lo) else old) =
      if lo ≤ n ∧ n < lo + (h + h) then v.getLsbD (n - lo) else old := by
  by_cases hhigh : lo + h ≤ n ∧ n < lo + h + h
  · rw [if_pos hhigh, if_pos (by omega), BitVec.getLsbD_extractLsb', decide_eq_true (by omega), Bool.true_and,
      show h + (n - (lo + h)) = n - lo by omega]
  · rw [if_neg hhigh]
    refine ite_congr (propext (by omega)) (fun hlow => ?_) (fun _ => rfl)
    rw [BitVec.getLsbD_extractLsb', decide_eq_true (by omega), Bool.true_and, Nat.zero_add]

theorem Memory.bit_write16 (m : Memory) (a : Nat) (v : BitVec 16) (n : Nat) :
    Memory.bit (Memory.write16 m a v) n =
      if 8 * a ≤ n ∧ n < 8 * a + 16 then v.getLsbD (n - 8 * a) else Memory.bit m n := by
  rw [Memory.write16, Memory.bit_write, Memory.bit_write, Nat.mul_add]
  exact bit_of_halves v (8 * a) 8 n _

theorem Memory.bit_write32 (m : Memory) (a : Nat) (v : Word32) (n : Nat) :
    Memory.bit (Memory.write32 m a v) n =
      if 8 * a ≤ n ∧ n < 8 * a + 32 then v.getLsbD (n - 8 * a) else Memory.bit m n := by
  rw [Memory.write32, Memory.bit_write16, Memory.bit_write16, Nat.mul_add]
  exact bit_of_halves v (8 * a) 16 n _

/-! ### The raw value in its unit -/

/-- The mask of a format is as many ones as a raw value has bits (10_state.md R26, 41_pixel_io.md R191). -/
theorem getLsbD_mask (f : Format) (k : Nat) : (fmt f).mask.getLsbD k = decide (k < rawBits f) := by
  have hmask : (fmt f).mask = (BitVec.allOnes (rawBits f)).setWidth 32 := by cases f <;> rfl
  have hle : rawBits f ≤ 32 := by cases f <;> decide
  rw [hmask, BitVec.getLsbD_setWidth, BitVec.getLsbD_allOnes]
  by_cases hk : k < rawBits f
  · simp [hk, show k < 32 by omega]
  · simp [hk]

/-- The mask of a nibble in its byte (41_pixel_io.md R192). -/
theorem getLsbD_nibbleMask (k : Nat) : (0xF : Byte).getLsbD k = decide (k < 4) := by
  rw [show (0xF : Byte) = (fmt .t4).mask.setWidth 8 from rfl, BitVec.getLsbD_setWidth, getLsbD_mask, rawBits]
  by_cases hk : k < 4
  · simp [hk, show k < 8 by omega]
  · simp [hk]

/-- A field of `len` bits put into a unit at `shift` (41_pixel_io.md R194). -/
theorem getLsbD_insertField {w shift len : Nat} {mask : BitVec w} (hmask : ∀ k, mask.getLsbD k = decide (k < len))
    (u v : BitVec w) {i : Nat} (hi : i < w) :
    (u &&& ~~~(mask <<< shift) ||| (v &&& mask) <<< shift).getLsbD i =
      if shift ≤ i ∧ i < shift + len then v.getLsbD (i - shift) else u.getLsbD i := by
  simp only [BitVec.getLsbD_or, BitVec.getLsbD_and, BitVec.getLsbD_not, BitVec.getLsbD_shiftLeft, hmask, hi]
  by_cases hlow : i < shift
  · simp [hlow, show ¬shift ≤ i by omega]
  · by_cases hin : i < shift + len
    · simp [hlow, hin, show shift ≤ i by omega, show i - shift < len by omega]
    · simp [hlow, hin, show ¬i - shift < len by omega]

/-! ### The pixel read and write as a read and a write of the footprint -/

section
variable {f : Format} (m : Memory) (x y bp bw : Nat)

/-- A raw value lies within its word (40_address_translator.md R189, 41_pixel_io.md R192). -/
theorem footBit_of_c32 (h : (fmt f).cls = .c32) :
    footBit f x y bp bw = 32 * pixelAddr f x y bp bw + (fmt f).shift ∧ (fmt f).shift + rawBits f ≤ 32 := by
  rw [footBit, h]
  exact ⟨rfl, by cases f <;> decide⟩

/-- Outside class 32 a raw value is its whole unit (40_address_translator.md R189, 41_pixel_io.md R192). -/
theorem footBit_of_whole_unit {c : StorageClass} (h : (fmt f).cls = c) (hc : c ≠ .c32) :
    footBit f x y bp bw = c.bits * pixelAddr f x y bp bw ∧ rawBits f = c.bits := by
  have hwhole : (fmt f).cls ≠ .c32 → (fmt f).shift = 0 ∧ rawBits f = (fmt f).cls.bits := by cases f <;> decide
  obtain ⟨hshift, hbits⟩ := hwhole (h ▸ hc)
  rw [footBit, hbits, hshift, h]
  exact ⟨rfl, rfl⟩

theorem footBit_of_c16 (h : (fmt f).cls = .c16) :
    footBit f x y bp bw = 16 * pixelAddr f x y bp bw ∧ rawBits f = 16 := footBit_of_whole_unit x y bp bw h (by decide)

theorem footBit_of_c8 (h : (fmt f).cls = .c8) :
    footBit f x y bp bw = 8 * pixelAddr f x y bp bw ∧ rawBits f = 8 := footBit_of_whole_unit x y bp bw h (by decide)

theorem footBit_of_c4 (h : (fmt f).cls = .c4) :
    footBit f x y bp bw = 4 * pixelAddr f x y bp bw ∧ rawBits f = 4 := footBit_of_whole_unit x y bp bw h (by decide)

/-- A pixel read gives the bits of the pixel's footprint (41_pixel_io.md R193, 40_address_translator.md R189). -/
theorem getLsbD_readPixel (k : Nat) :
    (readPixel m f x y bp bw).getLsbD k = (decide (k < rawBits f) && Memory.bit m (footBit f x y bp bw + k)) := by
  cases hc : (fmt f).cls with
  | c32 =>
    obtain ⟨hfoot, hfit⟩ := footBit_of_c32 x y bp bw hc
    simp only [readPixel, hc, hfoot, BitVec.getLsbD_and, getLsbD_mask, BitVec.getLsbD_ushiftRight, Memory.vm32,
      Memory.getLsbD_read32]
    generalize pixelAddr f x y bp bw = a
    by_cases hk : k < rawBits f
    · simp [hk, show (fmt f).shift + k < 32 by omega,
        show 8 * (4 * a) + ((fmt f).shift + k) = 32 * a + (fmt f).shift + k by omega]
    · simp [hk]
  | c16 =>
    obtain ⟨hfoot, hbits⟩ := footBit_of_c16 x y bp bw hc
    simp only [readPixel, hc, hfoot, hbits, BitVec.getLsbD_setWidth, Memory.vm16, Memory.getLsbD_read16]
    generalize pixelAddr f x y bp bw = a
    by_cases hk : k < 16
    · simp [hk, show k < 32 by omega, show 8 * (2 * a) + k = 16 * a + k by omega]
    · simp [hk]
  | c8 =>
    obtain ⟨hfoot, hbits⟩ := footBit_of_c8 x y bp bw hc
    simp only [readPixel, hc, hfoot, hbits, BitVec.getLsbD_setWidth, Memory.getLsbD_read]
    by_cases hk : k < 8
    · simp [hk, show k < 32 by omega]
    · simp [hk]
  | c4 =>
    obtain ⟨hfoot, hbits⟩ := footBit_of_c4 x y bp bw hc
    simp only [readPixel, hc, hfoot, hbits, BitVec.getLsbD_setWidth, BitVec.getLsbD_and, BitVec.getLsbD_ushiftRight,
      Memory.getLsbD_read, getLsbD_nibbleMask, nibbleShift]
    generalize pixelAddr f x y bp bw = a
    by_cases hk : k < 4
    · simp [hk, show k < 32 by omega, show 4 * (a % 2) + k < 8 by omega,
        show 8 * (a / 2) + (4 * (a % 2) + k) = 4 * a + k by omega]
    · simp [hk]

/-- A pixel write puts its value into the bits of the pixel's footprint and changes no other bit (41_pixel_io.md R194,
40_address_translator.md R189). -/
theorem bit_writePixel (v : Word32) (n : Nat) :
    Memory.bit (writePixel m f x y bp bw v) n =
      if footBit f x y bp bw ≤ n ∧ n < footBit f x y bp bw + rawBits f then v.getLsbD (n - footBit f x y bp bw)
      else Memory.bit m n := by
  cases hc : (fmt f).cls with
  | c32 =>
    obtain ⟨hfoot, hfit⟩ := footBit_of_c32 x y bp bw hc
    simp only [writePixel, hc, hfoot, Memory.bit_write32]
    generalize pixelAddr f x y bp bw = a
    by_cases hin : 8 * (4 * a) ≤ n ∧ n < 8 * (4 * a) + 32
    · rw [if_pos hin, getLsbD_insertField (getLsbD_mask f) _ _ (by omega), Memory.vm32, Memory.getLsbD_read32,
        Nat.add_sub_cancel' hin.1, decide_eq_true (by omega), Bool.true_and]
      exact if_congr (by omega) (congrArg _ (by omega)) rfl
    · rw [if_neg hin, if_neg (by omega)]
  | c16 =>
    obtain ⟨hfoot, hbits⟩ := footBit_of_c16 x y bp bw hc
    simp only [writePixel, hc, hfoot, hbits, Memory.bit_write16, BitVec.getLsbD_extractLsb']
    generalize pixelAddr f x y bp bw = a
    refine ite_congr (propext (by omega)) (fun hin => ?_) (fun _ => rfl)
    rw [decide_eq_true (by omega), Bool.true_and]
    exact congrArg _ (by omega)
  | c8 =>
    obtain ⟨hfoot, hbits⟩ := footBit_of_c8 x y bp bw hc
    simp only [writePixel, hc, hfoot, hbits, Memory.bit_write, BitVec.getLsbD_extractLsb']
    refine ite_congr rfl (fun hin => ?_) (fun _ => rfl)
    rw [decide_eq_true (by omega), Bool.true_and, Nat.zero_add]
  | c4 =>
    obtain ⟨hfoot, hbits⟩ := footBit_of_c4 x y bp bw hc
    simp only [writePixel, hc, hfoot, hbits, Memory.bit_write, nibbleShift]
    generalize pixelAddr f x y bp bw = a
    by_cases hin : 8 * (a / 2) ≤ n ∧ n < 8 * (a / 2) + 8
    · rw [if_pos hin, getLsbD_insertField getLsbD_nibbleMask _ _ (by omega), Memory.getLsbD_read,
        Nat.add_sub_cancel' hin.1, decide_eq_true (by omega), Bool.true_and]
      refine ite_congr (propext (by omega)) (fun hnibble => ?_) (fun _ => rfl)
      rw [BitVec.getLsbD_extractLsb', decide_eq_true (by omega), Bool.true_and]
      exact congrArg _ (by omega)
    · rw [if_neg hin, if_neg (by omega)]

/-- A raw value has no bit past the format's depth (41_pixel_io.md R191). -/
theorem readPixel_toNat_lt : (readPixel m f x y bp bw).toNat < 2 ^ rawBits f := by
  refine Nat.lt_pow_two_of_testBit _ fun k hk => ?_
  rw [BitVec.testBit_toNat, getLsbD_readPixel, decide_eq_false (Nat.not_lt.2 hk), Bool.false_and]

/-- A pixel just written reads as the value's low bits (41_pixel_io.md R195 (a)). -/
theorem readPixel_writePixel_same (v : Word32) :
    readPixel (writePixel m f x y bp bw v) f x y bp bw = BitVec.ofNat 32 (v.toNat % 2 ^ rawBits f) := by
  refine BitVec.eq_of_getLsbD_eq fun k hk => ?_
  rw [getLsbD_readPixel, BitVec.getLsbD_ofNat, Nat.testBit_mod_two_pow, BitVec.testBit_toNat, decide_eq_true hk,
    Bool.true_and]
  by_cases hraw : k < rawBits f
  · rw [bit_writePixel, if_pos (by omega), Nat.add_sub_cancel_left]
  · rw [decide_eq_false hraw, Bool.false_and, Bool.false_and]

/-- A pixel whose footprint has no bit in common with that of the pixel written reads as before (41_pixel_io.md R195
(b)). -/
theorem readPixel_writePixel_of_disjoint {g : Format} {x' y' bp' bw' : Nat} (v : Word32)
    (h : ∀ n, ¬((footBit f x y bp bw ≤ n ∧ n < footBit f x y bp bw + rawBits f) ∧
      footBit g x' y' bp' bw' ≤ n ∧ n < footBit g x' y' bp' bw' + rawBits g)) :
    readPixel (writePixel m f x y bp bw v) g x' y' bp' bw' = readPixel m g x' y' bp' bw' := by
  refine BitVec.eq_of_getLsbD_eq fun k _ => ?_
  rw [getLsbD_readPixel, getLsbD_readPixel]
  by_cases hraw : k < rawBits g
  · rw [bit_writePixel, if_neg fun hin => h _ ⟨hin, by omega⟩]
  · rw [decide_eq_false hraw, Bool.false_and, Bool.false_and]

end

end Sys2Proof.Machine
end

section
/-! The pixel operations (41_pixel_io.md R193 to R195, R223): how they end, what they read and write, and what a read
gives after a write. -/

namespace Sys2Proof.Machine

/-! ### How a pixel operation ends -/

section
variable {f : Format} {x y : CoordArg} {bp : BasePtr} {bw : BufWidth} {v : Word32} {alphad : Desc} {s t u : State}

/-- The arena check of a unit, in bytes (20_memory.md R62). -/
theorem inArena_iff_unit (f : Format) (x y bp bw : Nat) :
    inArena f bp bw (x, y) = true ↔ unitByte f x y bp bw + unitBytes f ≤ 4194304 := decide_eq_true_iff

/-- A unit past the arena stops a pixel operation whose width is not zero (41_pixel_io.md R193, 20_memory.md R62). -/
theorem check_pixelChecks_oob (hbw : bw ≠ 0)
    (hout : 4194304 < unitByte f x.toNat y.toNat bp.toNat bw.toNat + unitBytes f) (go : Answer State) :
    s.check (pixelChecks f x y bp bw) go = .next (s.failed (.cv .oob)) := by
  have hin : ¬inArena f bp.toNat bw.toNat (x.toNat, y.toNat) = true := mt (inArena_iff_unit ..).1 (Nat.not_le.2 hout)
  refine State.check_fail ?_
  rw [pixelChecks, decide_eq_false hbw, Bool.eq_false_of_not_eq_true hin]
  rfl

theorem rdpix_of_inArena (hbw : bw ≠ 0) (hin : inArena f bp.toNat bw.toNat (x.toNat, y.toNat) = true) :
    rdpix f x y bp bw s = .next (s.succeeded (.word (readPixel s.mem f x.toNat y.toNat bp.toNat bw.toNat))) :=
  State.check_pass (pixelChecks_pass.2 ⟨hbw, hin⟩)

theorem wrpix_of_inArena (hbw : bw ≠ 0) (hin : inArena f bp.toNat bw.toNat (x.toNat, y.toNat) = true) :
    wrpix f x y bp bw v s =
      .next (State.succeeded { s with mem := writePixel s.mem f x.toNat y.toNat bp.toNat bw.toNat v } .none) :=
  State.check_pass (pixelChecks_pass.2 ⟨hbw, hin⟩)

theorem rdtex_of_inArena (hbw : bw ≠ 0) (hin : inArena f bp.toNat bw.toNat (x.toNat, y.toNat) = true) :
    rdtex f x y bp bw alphad s = .next (s.succeeded
      (.word (texelOf f s.clut32 (readPixel s.mem f x.toNat y.toNat bp.toNat bw.toNat) alphad))) :=
  State.check_pass (pixelChecks_pass.2 ⟨hbw, hin⟩)

/-- `RDPIX.f` by the unit's bytes (41_pixel_io.md R193). -/
theorem rdpix_of_unit (s : State) (hbw : bw ≠ 0) :
    (unitByte f x.toNat y.toNat bp.toNat bw.toNat + unitBytes f ≤ 4194304 → rdpix f x y bp bw s =
      .next (s.succeeded (.word (readPixel s.mem f x.toNat y.toNat bp.toNat bw.toNat)))) ∧
    (4194304 < unitByte f x.toNat y.toNat bp.toNat bw.toNat + unitBytes f →
      rdpix f x y bp bw s = .next (s.failed (.cv .oob))) := by
  refine ⟨fun hin => ?_, fun hout => ?_⟩
  · exact rdpix_of_inArena hbw ((inArena_iff_unit ..).2 hin)
  · exact check_pixelChecks_oob hbw hout _

/-- `WRPIX.f` by the unit's bytes, where `unit` says what the unit holds after the write (41_pixel_io.md R194). -/
theorem wrpix_of_unit (s : State) (hbw : bw ≠ 0) {unit : Memory → Prop}
    (hunit : unit (writePixel s.mem f x.toNat y.toNat bp.toNat bw.toNat v)) :
    (unitByte f x.toNat y.toNat bp.toNat bw.toNat + unitBytes f ≤ 4194304 → ∃ mem', unit mem' ∧
      (∀ b, b < unitByte f x.toNat y.toNat bp.toNat bw.toNat ∨
          unitByte f x.toNat y.toNat bp.toNat bw.toNat + unitBytes f ≤ b →
        Memory.read mem' b = Memory.read s.mem b) ∧
      wrpix f x y bp bw v s = .next (State.succeeded { s with mem := mem' } .none)) ∧
    (4194304 < unitByte f x.toNat y.toNat bp.toNat bw.toNat + unitBytes f →
      wrpix f x y bp bw v s = .next (s.failed (.cv .oob))) := by
  refine ⟨fun hin => ⟨_, hunit, fun b hb => read_writePixel_of_outside v hb, ?_⟩, fun hout => ?_⟩
  · exact wrpix_of_inArena hbw ((inArena_iff_unit ..).2 hin)
  · exact check_pixelChecks_oob hbw hout _

/-- A pixel read ends alike in states in which the pixel reads alike. -/
theorem rdpix_of_readPixel_eq
    (hread : readPixel t.mem f x.toNat y.toNat bp.toNat bw.toNat = readPixel s.mem f x.toNat y.toNat bp.toNat bw.toNat)
    (h : rdpix f x y bp bw s = .next u) :
    rdpix f x y bp bw t = .next { t with status := u.status, result := u.result } := by
  rcases State.check_cases h with ⟨c, hfail, hu⟩ | ⟨hpass, hu⟩
  · cases hu
    rw [rdpix, State.check_fail hfail]
    rfl
  · cases hu
    rw [rdpix, State.check_pass hpass, hread]
    rfl

end

/-! ### The unit after a pixel write (41_pixel_io.md R194) -/

section
variable {f : Format} (m : Memory) (x y bp bw : Nat) (v : Word32)

theorem vm32_writePixel (h : (fmt f).cls = .c32) :
    Memory.vm32 (writePixel m f x y bp bw v) (pixelAddr f x y bp bw) =
      Memory.vm32 m (pixelAddr f x y bp bw) &&& ~~~((fmt f).mask <<< (fmt f).shift) |||
        (v &&& (fmt f).mask) <<< (fmt f).shift := by
  simp only [writePixel, h]
  exact Memory.read32_write32 ..

theorem vm16_writePixel (h : (fmt f).cls = .c16) :
    Memory.vm16 (writePixel m f x y bp bw v) (pixelAddr f x y bp bw) = (v &&& 0xFFFF).setWidth 16 := by
  simp only [writePixel, h]
  rw [Memory.vm16, Memory.read16_write16, BitVec.setWidth_and, BitVec.setWidth_eq_extractLsb' (by decide)]
  exact (BitVec.and_allOnes ..).symm

theorem read_writePixel_of_c8 (h : (fmt f).cls = .c8) :
    Memory.read (writePixel m f x y bp bw v) (pixelAddr f x y bp bw) = (v &&& 0xFF).setWidth 8 := by
  simp only [writePixel, h]
  rw [Memory.read_write, if_pos rfl, BitVec.setWidth_and, BitVec.setWidth_eq_extractLsb' (by decide)]
  exact (BitVec.and_allOnes ..).symm

theorem read_writePixel_of_c4 (h : (fmt f).cls = .c4) :
    Memory.read (writePixel m f x y bp bw v) (pixelAddr f x y bp bw / 2) =
      Memory.read m (pixelAddr f x y bp bw / 2) &&& ~~~((0xF : Byte) <<< (4 * (pixelAddr f x y bp bw % 2))) |||
        (v &&& 0xF).setWidth 8 <<< (4 * (pixelAddr f x y bp bw % 2)) := by
  simp only [writePixel, h]
  rw [Memory.read_write, if_pos rfl, BitVec.setWidth_and, BitVec.setWidth_eq_extractLsb' (by decide)]
  rfl

end

/-! ### The statements -/

/-- Settles O15: the write leaves the bits of the read's footprint alone. -/
theorem pixelNonInterference : Obligations.PixelNonInterference := by
  intro f g x y x' y' bp bp' bw bw' v s t u hdisjoint hwrite hread
  rw [exec_wrpixOf] at hwrite
  rw [exec_rdpixOf] at hread ⊢
  refine rdpix_of_readPixel_eq ?_ hread
  rcases wrpix_cases hwrite with ⟨c, rfl⟩ | ⟨-, -, rfl⟩
  · rfl
  · exact readPixel_writePixel_of_disjoint _ _ _ _ _ v hdisjoint

/-- Settles O11: the arena check is that of the unit's bytes, class by class. -/
theorem rdpixReadsTheUnit : Obligations.RdpixReadsTheUnit := by
  intro f x y bp bw s d a gives oob
  simp only [gives, oob, exec_rdpixOf]
  refine ⟨?_, fun hbw => ?_⟩
  · rintro rfl
    exact check_pixelChecks_zero ..
  · have hread := rdpix_of_unit (f := f) (x := x) (y := y) (bp := bp) s hbw
    unfold unitByte unitBytes readPixel at hread
    cases hc : (fmt f).cls <;> simp only [d, hc] at hread ⊢ <;> exact hread

/-- Settles O12: the unit after the write, class by class, and the frame of every pixel write. -/
theorem wrpixWritesTheUnit : Obligations.WrpixWritesTheUnit := by
  intro f x y bp bw v s d a m writes
  simp only [writes, exec_wrpixOf]
  refine ⟨?_, fun hbw => ?_⟩
  · rintro rfl
    exact check_pixelChecks_zero ..
  · have hwrite (unit : Memory → Prop) :=
      wrpix_of_unit (f := f) (x := x) (y := y) (bp := bp) (v := v) s hbw (unit := unit)
    unfold unitByte unitBytes at hwrite
    cases hc : (fmt f).cls <;> simp only [d, hc] at hwrite ⊢
    case c32 => exact hwrite _ (vm32_writePixel _ _ _ _ _ v hc)
    case c16 => exact hwrite _ (vm16_writePixel _ _ _ _ _ v hc)
    case c8 => exact hwrite _ (read_writePixel_of_c8 _ _ _ _ _ v hc)
    case c4 => exact hwrite _ (read_writePixel_of_c4 _ _ _ _ _ v hc)

/-- An index of at most 8 bits finds its entry of `CLUT32` (41_pixel_io.md R223). -/
theorem getElem_low8 (clut32 : Palette) {raw : Word32} (h : raw.toNat < 2 ^ 8) :
    clut32[(raw.extractLsb' 0 8).toNat]'(raw.extractLsb' 0 8).isLt = clut32[raw.toNat]?.getD 0 := by
  have hindex : (raw.extractLsb' 0 8).toNat = raw.toNat := by
    rw [BitVec.extractLsb'_toNat, Nat.shiftRight_zero, Nat.mod_eq_of_lt h]
  rw [Vector.getElem?_eq_getElem h, Option.getD_some]
  simp only [hindex]

/-- Settles O13: the conversion is the format's, and an index format has no raw value past 8 bits. -/
theorem rdtexConvertsTheRawValue : Obligations.RdtexConvertsTheRawValue := by
  intro f x y bp bw alphad s hbw hblock raw
  have hin := (inArena_iff_blockAddr f x.toNat y.toNat bp.toNat bw.toNat).2 hblock
  have hraw : raw.toNat < 2 ^ rawBits f := readPixel_toNat_lt ..
  rw [exec_rdpixOf, exec_rdtexOf, rdpix_of_inArena hbw hin, rdtex_of_inArena hbw hin]
  refine ⟨rfl, congrArg (fun w => Host.Outcome.next (s.succeeded (.word w))) ?_⟩
  change texelOf f s.clut32 raw alphad = _
  clear_value raw
  cases f with
  | ct32 | z32 => rfl
  | ct24 | z24 => exact congrArg (expand24 · alphad) (BitVec.setWidth_eq_extractLsb' (by decide)).symm
  | ct16 | ct16s | z16 | z16s => exact congrArg (expand16 · alphad) (BitVec.setWidth_eq_extractLsb' (by decide)).symm
  | t8 | t8h | t4 | t4hl | t4hh => exact getElem_low8 _ (hraw.trans_le (by decide))

/-- Settles O14: the write passes the arena check, so the read does, and it reads the footprint just written. -/
theorem pixelRoundTrip : Obligations.PixelRoundTrip := by
  intro f x y bp bw v s hbw hblock
  have hin := (inArena_iff_blockAddr f x.toNat y.toNat bp.toNat bw.toNat).2 hblock
  refine ⟨_, (exec_wrpixOf ..).trans (wrpix_of_inArena hbw hin), ?_⟩
  rw [exec_rdpixOf, rdpix_of_inArena hbw hin, State.succeeded_mem, readPixel_writePixel_same]
  rfl

end Sys2Proof.Machine
end

section
/-! The colour expansions (42_color_clut.md R252 to R254): the parts of a colour as fields of its word. -/

namespace Sys2Proof.Machine

/-! ### Fields of a word -/

section
variable {w n : Nat} {mask : BitVec w}

/-- A field shifted down and masked. -/
theorem ushiftRight_and_mask (hmask : mask.toNat = 2 ^ n - 1) (x : BitVec w) (k : Nat) :
    x >>> k &&& mask = (x.extractLsb' k n).setWidth w := by
  have hbit (i : Nat) : mask.getLsbD i = decide (i < n) := by
    rw [← BitVec.testBit_toNat, hmask, Nat.testBit_two_pow_sub_one]
  refine BitVec.eq_of_getLsbD_eq fun i hi => ?_
  rw [BitVec.getLsbD_and, BitVec.getLsbD_ushiftRight, hbit, BitVec.getLsbD_setWidth, BitVec.getLsbD_extractLsb',
    decide_eq_true hi, Bool.true_and, Bool.and_comm]

/-- The low bits of a word, masked. -/
theorem and_mask (hmask : mask.toNat = 2 ^ n - 1) (x : BitVec w) : x &&& mask = (x.extractLsb' 0 n).setWidth w := by
  rw [← ushiftRight_and_mask hmask, BitVec.ushiftRight_zero]

theorem and_mask_eq_zero_iff (hmask : mask.toNat = 2 ^ n - 1) (hn : n ≤ w) (x : BitVec w) :
    x &&& mask = 0 ↔ x.extractLsb' 0 n = 0 := by
  rw [and_mask hmask, ← BitVec.toNat_inj, BitVec.toNat_setWidth_of_le hn, ← BitVec.toNat_inj]
  rfl

end

/-- Two parts side by side, as a shift and a union. -/
theorem append_eq_or {m n : Nat} (hi : BitVec m) (lo : BitVec n) :
    hi ++ lo = hi.setWidth (m + n) <<< n ||| lo.setWidth (m + n) := by
  rw [← BitVec.setWidth_append_eq_shiftLeft_setWidth_or, BitVec.setWidth_eq]

/-! ### The parts of a colour -/

/-- A channel widened (42_color_clut.md R252). -/
theorem setWidth_widen5 (c : BitVec 5) : (widen5 c).setWidth 32 = c.setWidth 32 <<< 3 := by
  rw [widen5, BitVec.setWidth_append_eq_shiftLeft_setWidth_or]
  simp

/-- A widened channel shifted back (42_color_clut.md R254). -/
theorem setWidth_widen5_ushiftRight (c : BitVec 5) : (widen5 c).setWidth 32 >>> 3 = c.setWidth 32 := by
  rw [setWidth_widen5]
  refine BitVec.eq_of_getLsbD_eq fun i hi => ?_
  by_cases hchannel : i < 5
  · simp [show 3 + i < 32 by omega, hi]
  · simp [BitVec.getLsbD_of_ge c i (by omega)]

/-- A 5-bit channel of the colour, its low 16 bits, widened. -/
theorem setWidth_widen5_channel (v : Word32) {k : Nat} (hk : k + 5 ≤ 16) :
    (widen5 ((v.extractLsb' 0 16).extractLsb' k 5)).setWidth 32 = ((v &&& 0xFFFF) >>> k &&& 0x1F) <<< 3 := by
  rw [setWidth_widen5, ushiftRight_and_mask (n := 5) rfl, and_mask (n := 16) rfl,
    BitVec.extractLsb'_setWidth_of_le (by omega)]

/-- `TA0` as a masked field of `ALPHAD` (30_encoding.md R102). -/
theorem setWidth_ta0 (alphad : Desc) : (Alphad.ta0 alphad).setWidth 32 = (alphad &&& 0xFF).setWidth 32 := by
  rw [and_mask (n := 8) rfl, BitVec.setWidth_setWidth_of_le _ (by decide)]
  rfl

/-- `TA1` as a masked field of `ALPHAD` (30_encoding.md R102). -/
theorem setWidth_ta1 (alphad : Desc) : (Alphad.ta1 alphad).setWidth 32 = (alphad >>> 32 &&& 0xFF).setWidth 32 := by
  rw [ushiftRight_and_mask (n := 8) rfl, BitVec.setWidth_setWidth_of_le _ (by decide)]
  rfl

/-- The alpha that a colour without a top bit takes, on the word that holds the colour (42_color_clut.md R252, R253). -/
theorem setWidth_lowAlpha {n : Nat} {mask : Word32} (hmask : mask.toNat = 2 ^ n - 1) (hn : n ≤ 32) (v : Word32)
    (alphad : Desc) :
    (if Alphad.aem alphad && v.extractLsb' 0 n == 0 then (0 : BitVec 8) else Alphad.ta0 alphad).setWidth 32 =
      if alphad.getLsbD 15 = true ∧ v &&& mask = 0 then 0 else (alphad &&& 0xFF).setWidth 32 := by
  have hzero :
      (Alphad.aem alphad && v.extractLsb' 0 n == 0) = true ↔ alphad.getLsbD 15 = true ∧ v &&& mask = 0 := by
    rw [Bool.and_eq_true, beq_iff_eq, and_mask_eq_zero_iff hmask hn]
    rfl
  rw [apply_ite (BitVec.setWidth 32), setWidth_ta0]
  exact if_congr hzero rfl rfl

/-- The alpha of a 16-bit colour, on the word that holds the colour (42_color_clut.md R252). -/
theorem setWidth_alpha16 (v : Word32) (alphad : Desc) :
    (alpha16 (v.extractLsb' 0 16) alphad).setWidth 32 =
      if (v &&& 0xFFFF).getLsbD 15 then (alphad >>> 32 &&& 0xFF).setWidth 32
      else if alphad.getLsbD 15 = true ∧ v &&& 0xFFFF = 0 then 0 else (alphad &&& 0xFF).setWidth 32 := by
  have htop : (v &&& 0xFFFF).getLsbD 15 = (v.extractLsb' 0 16).getLsbD 15 := by
    rw [and_mask (n := 16) rfl, BitVec.getLsbD_setWidth, decide_eq_true (by decide), Bool.true_and]
  rw [htop, alpha16, apply_ite (BitVec.setWidth 32), setWidth_ta1, setWidth_lowAlpha (mask := 0xFFFF) rfl (by decide)]

/-- The channels of an expanded 16-bit colour, side by side (42_color_clut.md R250, R252). -/
theorem expand16_eq_or (c : BitVec 16) (alphad : Desc) :
    expand16 c alphad =
      (alpha16 c alphad).setWidth 32 <<< 24 ||| (widen5 (c.extractLsb' 10 5)).setWidth 32 <<< 16 |||
        (widen5 (c.extractLsb' 5 5)).setWidth 32 <<< 8 ||| (widen5 (c.extractLsb' 0 5)).setWidth 32 :=
  (BitVec.setWidth_eq _).symm.trans BitVec.setWidth_append_append_append_eq_shiftLeft_setWidth_or

/-- The three channels of an expanded 16-bit colour, taken out of it again (42_color_clut.md R250, R252). -/
theorem expand16_channels (c : BitVec 16) (alphad : Desc) :
    (expand16 c alphad).extractLsb' 16 8 = widen5 (c.extractLsb' 10 5) ∧
      (expand16 c alphad).extractLsb' 8 8 = widen5 (c.extractLsb' 5 5) ∧
      (expand16 c alphad).extractLsb' 0 8 = widen5 (c.extractLsb' 0 5) := by
  unfold expand16
  refine ⟨?_, ?_, BitVec.extractLsb'_append_eq_right⟩
  · rw [BitVec.extractLsb'_append_eq_of_le (by decide), BitVec.extractLsb'_append_eq_of_le (by decide)]
    exact BitVec.extractLsb'_append_eq_right
  · rw [BitVec.extractLsb'_append_eq_of_le (by decide)]
    exact BitVec.extractLsb'_append_eq_right

/-- A 16-bit colour put together from its top bit and its channels. -/
theorem colour_eq_or (v : Word32) :
    v &&& 0xFFFF = v &&& 0x8000 ||| (v.extractLsb' 10 5).setWidth 32 <<< 10 |||
      (v.extractLsb' 5 5).setWidth 32 <<< 5 ||| (v.extractLsb' 0 5).setWidth 32 := by
  have htop : v &&& 0x8000 = (v.extractLsb' 15 1).setWidth 32 <<< 15 := by
    rw [← ushiftRight_and_mask (mask := 1) rfl, BitVec.shiftLeft_and_distrib, BitVec.shiftLeft_ushiftRight,
      BitVec.and_assoc]
    rfl
  have hparts : v.extractLsb' 15 1 ++ v.extractLsb' 10 5 ++ v.extractLsb' 5 5 ++ v.extractLsb' 0 5 =
      v.extractLsb' 0 16 := by
    rw [BitVec.extractLsb'_append_extractLsb'_eq_extractLsb' (start₂ := 15) (start₁ := 10) (len₁ := 5) rfl,
      BitVec.extractLsb'_append_extractLsb'_eq_extractLsb' (start₂ := 10) (start₁ := 5) (len₁ := 5) rfl,
      BitVec.extractLsb'_append_extractLsb'_eq_extractLsb' (start₂ := 5) (start₁ := 0) (len₁ := 5) rfl]
  rw [and_mask (n := 16) rfl, htop, ← hparts]
  exact BitVec.setWidth_append_append_append_eq_shiftLeft_setWidth_or

/-! ### The statements -/

/-- Settles O18: a channel shifted back is the colour's, and the top bit and the channels make up the colour. -/
theorem exp16KeepsTheColourBits : Obligations.Exp16KeepsTheColourBits := by
  intro v alphad s
  refine ⟨expand16 (v.extractLsb' 0 16) alphad, rfl, ?_⟩
  obtain ⟨hblue, hgreen, hred⟩ := expand16_channels (v.extractLsb' 0 16) alphad
  rw [ushiftRight_and_mask (n := 8) rfl, ushiftRight_and_mask (n := 8) rfl, and_mask (n := 8) (mask := 0xFF) rfl,
    hblue, hgreen, hred, setWidth_widen5_ushiftRight, setWidth_widen5_ushiftRight, setWidth_widen5_ushiftRight,
    BitVec.extractLsb'_extractLsb'_of_le (by decide), BitVec.extractLsb'_extractLsb'_of_le (by decide),
    BitVec.extractLsb'_extractLsb'_of_le (by decide)]
  exact (colour_eq_or v).symm

/-- Settles O16: the alpha and the three channels, each a masked field, stand side by side. -/
theorem exp16ExpandsTheColour : Obligations.Exp16ExpandsTheColour := by
  intro v alphad s c ta0 ta1 aem a r g b
  have hword : expand16 (v.extractLsb' 0 16) alphad = a <<< 24 ||| b <<< 16 ||| g <<< 8 ||| r := by
    have hred : (widen5 ((v.extractLsb' 0 16).extractLsb' 0 5)).setWidth 32 = r := setWidth_widen5_channel v (by decide)
    rw [expand16_eq_or, setWidth_alpha16, setWidth_widen5_channel v (by decide), setWidth_widen5_channel v (by decide),
      hred]
  rw [← hword]
  rfl

/-- Settles O17: the alpha stands above the 24 bits of the colour. -/
theorem exp24ExpandsTheColour : Obligations.Exp24ExpandsTheColour := by
  intro v alphad s c ta0 aem a
  have hword : expand24 (v.extractLsb' 0 24) alphad = a <<< 24 ||| c := by
    have halpha : BitVec.setWidth 32
        (if Alphad.aem alphad && v.extractLsb' 0 24 == 0 then (0 : BitVec 8) else Alphad.ta0 alphad) = a :=
      setWidth_lowAlpha rfl (by decide) v alphad
    have hcolour : c = (v.extractLsb' 0 24).setWidth 32 := and_mask rfl v
    rw [expand24, append_eq_or, halpha, hcolour]
  rw [← hword]
  rfl

end Sys2Proof.Machine
end

section
/-! The palette (42_color_clut.md R255 to R269): which palette a request names, how `CLUTWR` and `CLUTRD32` end, and
what a palette stored in `CLUT` is read back as. -/

namespace Sys2Proof.Machine

/-! ### The palette a request names (42_color_clut.md R258, R261, R267) -/

/-- The legal `CPSM` codes, `CLUT24_AS_32` being false (30_encoding.md R97). -/
theorem cpsmFormat_eq_some_iff {c : BitVec 4} {cpf : Format} :
    cpsmFormat c = some cpf ↔ c = 0x0 ∧ cpf = .ct32 ∨ c = 0x2 ∧ cpf = .ct16 ∨ c = 0xA ∧ cpf = .ct16s := by
  revert c
  cases cpf <;> decide

theorem cpsmFormat_eq_none_iff {c : BitVec 4} : cpsmFormat c = none ↔ c ∉ ([0x0, 0x2, 0xA] : List (BitVec 4)) := by
  revert c
  decide

/-- Only a CT32 entry is split over the two banks (42_color_clut.md R257). -/
theorem wideEntry_iff {cpf : Format} : wideEntry cpf = true ↔ cpf = .ct32 := beq_iff_eq

section
variable {texd : Desc} {f cpf : Format}

theorem paletteOf_badPsm (hf : formatOf (Texd.psm texd) = none) : paletteOf texd = .error .badPsm := by
  rw [paletteOf, hf]

theorem paletteOf_badPal (hf : formatOf (Texd.psm texd) = some f) (hpal : (fmt f).pal = 0) :
    paletteOf texd = .error .badPal := by
  rw [paletteOf, hf]
  exact if_pos hpal

theorem paletteOf_badCpsm (hf : formatOf (Texd.psm texd) = some f) (hpal : (fmt f).pal ≠ 0)
    (hcpsm : cpsmFormat (Texd.cpsm texd) = none) : paletteOf texd = .error .badCpsm := by
  simp only [paletteOf, hf, if_neg hpal, hcpsm]

/-- With a legal format and palette format, only the base of the palette is left to check. -/
theorem paletteOf_eq_ite (hf : formatOf (Texd.psm texd) = some f) (hpal : (fmt f).pal ≠ 0)
    (hcpsm : cpsmFormat (Texd.cpsm texd) = some cpf) :
    paletteOf texd =
      if clutBaseLegal cpf (Texd.csa texd) (fmt f).pal then .ok ((fmt f).pal, cpf) else .error .badCsa := by
  simp only [paletteOf, hf, if_neg hpal, hcpsm]

/-- A palette named without an error is that of the descriptor's format and palette format, at a legal base. -/
theorem paletteOf_ok {n : Nat} (h : paletteOf texd = .ok (n, cpf)) :
    (∃ f, formatOf (Texd.psm texd) = some f ∧ n = (fmt f).pal) ∧ cpsmFormat (Texd.cpsm texd) = some cpf ∧
      clutBaseLegal cpf (Texd.csa texd) n = true := by
  cases hf : formatOf (Texd.psm texd) with
  | none => simp [paletteOf_badPsm hf] at h
  | some f =>
    by_cases hpal : (fmt f).pal = 0
    · simp [paletteOf_badPal hf hpal] at h
    · cases hcpsm : cpsmFormat (Texd.cpsm texd) with
      | none => simp [paletteOf_badCpsm hf hpal hcpsm] at h
      | some g =>
        rw [paletteOf_eq_ite hf hpal hcpsm] at h
        split at h
        · cases h
          exact ⟨⟨f, rfl, rfl⟩, rfl, ‹_›⟩
        · cases h

end

/-- The legal bases, by the palette format (42_color_clut.md R258). -/
theorem clutBaseLegal_iff {cpf : Format} {csa : BitVec 5} {n : Nat} :
    clutBaseLegal cpf csa n = true ↔ 16 * csa.toNat + n ≤ if cpf = .ct32 then 256 else 512 := by
  unfold clutBaseLegal clutBase
  by_cases hwide : cpf = .ct32
  · rw [if_pos (wideEntry_iff.2 hwide), if_pos hwide]
    exact decide_eq_true_iff
  · rw [if_neg (mt wideEntry_iff.1 hwide), if_neg hwide]
    exact decide_eq_true_iff

/-- With a legal format, palette format and base the palette is the one named. -/
theorem paletteOf_of_legal {texd : Desc} {f cpf : Format} (hf : formatOf (Texd.psm texd) = some f)
    (hpal : (fmt f).pal ≠ 0) (hcpsm : cpsmFormat (Texd.cpsm texd) = some cpf)
    (hbase : 16 * (Texd.csa texd).toNat + (fmt f).pal ≤ if cpf = .ct32 then 256 else 512) :
    paletteOf texd = .ok ((fmt f).pal, cpf) := by
  rw [paletteOf_eq_ite hf hpal hcpsm, if_pos (clutBaseLegal_iff.2 hbase)]

/-- A base past the palette format's bound is the last of the palette's checks to fail. -/
theorem paletteOf_badCsa {texd : Desc} {f cpf : Format} (hf : formatOf (Texd.psm texd) = some f)
    (hpal : (fmt f).pal ≠ 0) (hcpsm : cpsmFormat (Texd.cpsm texd) = some cpf)
    (hbase : (if cpf = .ct32 then 256 else 512) < 16 * (Texd.csa texd).toNat + (fmt f).pal) :
    paletteOf texd = .error .badCsa := by
  rw [paletteOf_eq_ite hf hpal hcpsm, if_neg (mt clutBaseLegal_iff.1 (Nat.not_le.2 hbase))]

/-- A 16-bit `CPSM` code names a palette format that is not CT32 (30_encoding.md R97). -/
theorem cpsmFormat_of_narrow {c : BitVec 4} (h : c ∈ ([0x2, 0xA] : List (BitVec 4))) :
    c ≠ 0x0 ∧ ∃ cpf, cpsmFormat c = some cpf ∧ cpf ≠ .ct32 := by
  simp only [List.mem_cons, List.not_mem_nil, or_false] at h
  rcases h with rfl | rfl
  · exact ⟨by decide, .ct16, rfl, by decide⟩
  · exact ⟨by decide, .ct16s, rfl, by decide⟩

/-- Legal operands, as the statements write them, name a palette; its entries are 32 bits wide when `CPSM` is 0. -/
theorem exists_paletteOf {texd : Desc} {f : Format} (hf : formatOf (Texd.psm texd) = some f) (hpal : (fmt f).pal ≠ 0)
    (h : Texd.cpsm texd = 0x0 ∧ 16 * (Texd.csa texd).toNat + (fmt f).pal ≤ 256 ∨
      Texd.cpsm texd ∈ ([0x2, 0xA] : List (BitVec 4)) ∧ 16 * (Texd.csa texd).toNat + (fmt f).pal ≤ 512) :
    ∃ cpf, paletteOf texd = .ok ((fmt f).pal, cpf) ∧ (wideEntry cpf = true ↔ Texd.cpsm texd = 0x0) := by
  rcases h with ⟨hcpsm, hbase⟩ | ⟨hcpsm, hbase⟩
  · refine ⟨.ct32, paletteOf_of_legal hf hpal ?_ hbase, iff_of_true rfl hcpsm⟩
    exact cpsmFormat_eq_some_iff.2 (.inl ⟨hcpsm, rfl⟩)
  · obtain ⟨hcode, cpf, hcpf, hnarrow⟩ := cpsmFormat_of_narrow hcpsm
    exact ⟨cpf, paletteOf_of_legal hf hpal hcpf (by rwa [if_neg hnarrow]),
      iff_of_false (mt wideEntry_iff.1 hnarrow) hcode⟩

/-! ### How the palette operations end (42_color_clut.md R260, R261, R266, R267) -/

/-- A contract violation does not leave STATUS at zero (60_exceptions.md R404). -/
theorem cv_status_ne_zero (c : Cause) : (Ending.cv c).status ≠ 0 := by cases c <;> decide

section
variable {texd clutd alphad : Desc} {s : State} {n : Nat} {cpf : Format}

/-- A palette that cannot be named stops both operations. -/
theorem exec_palette_fails {c : Cause} (h : paletteOf texd = .error c) :
    exec (.clutwr texd clutd) s = .next (s.failed (.cv c)) ∧
      exec (.clutrd32 texd alphad) s = .next (s.failed (.cv c)) := by
  refine ⟨?_, ?_⟩
  · change execClutwr texd clutd s = _
    rw [execClutwr, h]
    rfl
  · change execClutrd32 texd alphad s = _
    rw [execClutrd32, h]
    rfl

theorem exec_clutrd32_of_palette (h : paletteOf texd = .ok (n, cpf)) :
    exec (.clutrd32 texd alphad) s = .next { s with
      clut32 := clut32Rebuilt s n cpf texd alphad
      status := 0x0000
      result := .palette (clut32Rebuilt s n cpf texd alphad) } := by
  change execClutrd32 texd alphad s = _
  rw [execClutrd32, h]
  rfl

/-- What is left of a `CLUTWR` whose palette is named: the width, the short circuit, the arena (42_color_clut.md R260,
R261). -/
theorem exec_clutwr_of_palette (h : paletteOf texd = .ok (n, cpf)) :
    exec (.clutwr texd clutd) s =
      if Texd.csm texd = true ∧ Clutd.cbw clutd = 0 then s.raise (.cv .badBw)
      else if s.clutDirty = false ∧ s.clutSnap = some (clutSig n texd clutd) then s.answer .none
      else if srcInArena cpf n texd clutd then State.answer (clutRebuilt s n cpf texd clutd) .none
      else s.raise (.cv .oob) := by
  change execClutwr texd clutd s = _
  rw [execClutwr, h]

theorem exec_clutwr_zeroWidth (h : paletteOf texd = .ok (n, cpf)) (hcsm : Texd.csm texd = true)
    (hcbw : Clutd.cbw clutd = 0) : exec (.clutwr texd clutd) s = .next (s.failed (.cv .badBw)) :=
  (exec_clutwr_of_palette h).trans (if_pos ⟨hcsm, hcbw⟩)

/-- The short circuit of R260 (a). -/
theorem exec_clutwr_unchanged (h : paletteOf texd = .ok (n, cpf)) (hbw : Texd.csm texd = true → Clutd.cbw clutd ≠ 0)
    (hclean : s.clutDirty = false) (hsig : s.clutSnap = some (clutSig n texd clutd)) :
    exec (.clutwr texd clutd) s = .next (s.succeeded .none) := by
  rw [exec_clutwr_of_palette h, if_neg fun ⟨hcsm, hcbw⟩ => hbw hcsm hcbw]
  exact if_pos ⟨hclean, hsig⟩

section
variable (h : paletteOf texd = .ok (n, cpf)) (hbw : Texd.csm texd = true → Clutd.cbw clutd ≠ 0)
  (hstale : s.clutDirty = true ∨ s.clutSnap ≠ some (clutSig n texd clutd))
include h hbw hstale

/-- Past its checks and its short circuit a `CLUTWR` looks at the arena. -/
theorem exec_clutwr_stale :
    exec (.clutwr texd clutd) s =
      if srcInArena cpf n texd clutd then State.answer (clutRebuilt s n cpf texd clutd) .none
      else s.raise (.cv .oob) := by
  have hgo : ¬(s.clutDirty = false ∧ s.clutSnap = some (clutSig n texd clutd)) := by
    rintro ⟨hclean, hsig⟩
    rcases hstale with hdirty | hdiffers
    · rw [hclean] at hdirty
      cases hdirty
    · exact hdiffers hsig
  rw [exec_clutwr_of_palette h, if_neg fun ⟨hcsm, hcbw⟩ => hbw hcsm hcbw, if_neg hgo]

theorem exec_clutwr_rebuilds (hin : srcInArena cpf n texd clutd = true) :
    exec (.clutwr texd clutd) s = .next ((clutRebuilt s n cpf texd clutd).succeeded .none) :=
  (exec_clutwr_stale h hbw hstale).trans (if_pos hin)

theorem exec_clutwr_oob (hout : srcInArena cpf n texd clutd ≠ true) :
    exec (.clutwr texd clutd) s = .next (s.failed (.cv .oob)) :=
  (exec_clutwr_stale h hbw hstale).trans (if_neg hout)

end

end

/-- The state after a rebuild, written out (42_color_clut.md R260). -/
theorem clutRebuilt_succeeded (s : State) (n : Nat) (cpf : Format) (texd clutd : Desc) :
    (clutRebuilt s n cpf texd clutd).succeeded .none = { s with
      clut := clutStore s.clut (wideEntry cpf) (16 * (Texd.csa texd).toNat) n (srcEntry s.mem cpf n texd clutd)
      clutSnap := some (clutSig n texd clutd)
      clutDirty := false
      status := 0x0000
      result := .none } := by
  unfold clutRebuilt clutBase
  rfl

/-! ### The source of the palette (42_color_clut.md R263, R264) -/

theorem srcPixel_eq (n : Nat) (texd clutd : Desc) (i : Nat) :
    srcPixel n texd clutd i =
      (if Texd.csm texd then (Clutd.cou clutd).toNat * 16 + i else if n = 16 then i % 8
        else (i &&& 0xE7 ||| (i &&& 0x08) <<< 1 ||| (i &&& 0x10) >>> 1) % 16,
      if Texd.csm texd then (Clutd.cov clutd).toNat else if n = 16 then i / 8
        else (i &&& 0xE7 ||| (i &&& 0x08) <<< 1 ||| (i &&& 0x10) >>> 1) / 16) := by
  unfold srcPixel csm0Pixel
  split
  · rfl
  · split <;> rfl

/-- The arena check of the source, in blocks (20_memory.md R62, 42_color_clut.md R260). -/
theorem srcInArena_iff {cpf : Format} {n : Nat} {texd clutd : Desc} :
    srcInArena cpf n texd clutd = true ↔ ∀ i < n,
      blockAddr cpf (srcPixel n texd clutd i).1 (srcPixel n texd clutd i).2 (Texd.cbp texd).toNat (srcBw texd clutd) <
        16384 := by
  simp only [srcInArena, List.all_eq_true, List.mem_range, ← inArena_iff_blockAddr, Prod.mk.eta]

/-! ### What `CLUT` holds after a store (42_color_clut.md R257, R260) -/

theorem clutAt_eq_getElem (clut : ClutMemory) {k : Nat} (hk : k < 512) : clutAt clut k = clut[k] := by
  rw [clutAt, Vector.getElem?_eq_getElem hk, Option.getD_some]

section
variable {clut : ClutMemory} {wide : Bool} {b n : Nat} {entry : Nat → Word32}

/-- `getElem_clutStore` for a read through `clutAt`. -/
theorem clutAt_clutStore {k : Nat} (hk : k < 512) :
    clutAt (clutStore clut wide b n entry) k =
      if b ≤ k ∧ k < b + n then (entry (k - b)).extractLsb' 0 16
      else if wide = true ∧ b + 256 ≤ k ∧ k < b + 256 + n then (entry (k - b - 256)).extractLsb' 16 16
      else clutAt clut k := by
  rw [clutAt_eq_getElem _ hk, clutAt_eq_getElem _ hk]
  exact getElem_clutStore clut wide b n entry k hk

/-- The low half of an entry stands at the entry's place. -/
theorem clutAt_clutStore_low {i : Nat} (hfit : b + n ≤ 512) (hi : i < n) :
    clutAt (clutStore clut wide b n entry) (b + i) = (entry i).extractLsb' 0 16 := by
  rw [clutAt_clutStore (by omega), if_pos (by omega), Nat.add_sub_cancel_left]

/-- The high half of a 32-bit entry stands one bank above. -/
theorem clutAt_clutStore_high {i : Nat} (hwide : wide = true) (hfit : b + n ≤ 256) (hi : i < n) :
    clutAt (clutStore clut wide b n entry) (b + i + 256) = (entry i).extractLsb' 16 16 := by
  rw [clutAt_clutStore (by omega), if_neg (by omega), if_pos ⟨hwide, by omega, by omega⟩,
    show b + i + 256 - b - 256 = i by omega]

theorem clutAt_clutStore_of_outside {k : Nat} (hk : k < 512) (hlow : ¬(b ≤ k ∧ k < b + n))
    (hhigh : ¬(wide = true ∧ b + 256 ≤ k ∧ k < b + 256 + n)) :
    clutAt (clutStore clut wide b n entry) k = clutAt clut k := by
  rw [clutAt_clutStore hk, if_neg hlow, if_neg hhigh]

/-- A stored palette is read back as the colours of its entries (42_color_clut.md R260, R266). -/
theorem clutColour_clutStore (alphad : Desc) {i : Nat} (hfit : b + n ≤ if wide = true then 256 else 512)
    (hi : i < n) :
    clutColour (clutStore clut wide b n entry) wide b alphad i =
      if wide = true then entry i else expand16 ((entry i).extractLsb' 0 16) alphad := by
  unfold clutColour
  by_cases hwide : wide = true
  · rw [if_pos hwide] at hfit ⊢
    rw [if_pos hwide, clutAt_clutStore_low (by omega) hi]
    exact (congrArg (· ++ _) (clutAt_clutStore_high hwide hfit hi)).trans BitVec.extractLsb'_append_extractLsb'
  · rw [if_neg hwide] at hfit ⊢
    rw [if_neg hwide, clutAt_clutStore_low hfit hi]

end

/-- The base check is that the palette fits its part of `CLUT` (42_color_clut.md R258). -/
theorem clutBase_add_le {cpf : Format} {csa : BitVec 5} {n : Nat} (h : clutBaseLegal cpf csa n = true) :
    clutBase csa + n ≤ if wideEntry cpf = true then 256 else 512 := by
  rw [clutBaseLegal_iff] at h
  simpa only [clutBase, wideEntry_iff] using h

/-- A `CLUTRD32` after a rebuild gives the colours of the entries that were read from GSMEM (42_color_clut.md R269). -/
theorem getElem_clut32Rebuilt_of_clutRebuilt {s : State} {n : Nat} {cpf : Format} {texd clutd alphad : Desc}
    (hbase : clutBaseLegal cpf (Texd.csa texd) n = true) {i : Nat} {hi : i < 256} (hlt : i < n) :
    (clut32Rebuilt ((clutRebuilt s n cpf texd clutd).succeeded .none) n cpf texd alphad)[i] =
      if wideEntry cpf = true then srcEntry s.mem cpf n texd clutd i
      else expand16 ((srcEntry s.mem cpf n texd clutd i).extractLsb' 0 16) alphad := by
  rw [clut32Rebuilt, getElem_clut32Store, if_pos hlt, State.succeeded_clut, clutRebuilt_clut]
  exact clutColour_clutStore alphad (clutBase_add_le hbase) hlt

/-! ### The statements -/

/-- Settles O24: the flag is all that `CLUTINV` writes besides STATUS. -/
theorem clutinvRaisesTheDirtyFlag : Obligations.ClutinvRaisesTheDirtyFlag := fun _ => rfl

/-- Settles O20: legal operands name the palette, and then the short circuit is taken. -/
theorem clutwrShortCircuits : Obligations.ClutwrShortCircuits := by
  rintro texd clutd s f n hf rfl hpal hlegal hbw hclean hsig
  obtain ⟨cpf, hpalette, -⟩ := exists_paletteOf hf hpal (by simpa using hlegal)
  exact exec_clutwr_unchanged hpalette hbw hclean hsig

/-- Settles O21: one cause of `paletteOf` for each clause, and the width check that follows it in `CLUTWR`. -/
theorem paletteChecks : Obligations.PaletteChecks := by
  intro texd clutd alphad s cv both csa
  refine ⟨fun hf => exec_palette_fails (paletteOf_badPsm hf), fun f hf => ⟨fun hpal => ?_, fun hpal hcpsm => ?_,
    fun hpal hcpsm hbase => ?_, fun hpal hcpsm hbase => ?_, fun hpal hlegal hcsm hcbw => ?_⟩⟩
  · exact exec_palette_fails (paletteOf_badPal hf hpal)
  · exact exec_palette_fails (paletteOf_badCpsm hf hpal (cpsmFormat_eq_none_iff.2 hcpsm))
  · have hwide : cpsmFormat (Texd.cpsm texd) = some .ct32 := cpsmFormat_eq_some_iff.2 (.inl ⟨hcpsm, rfl⟩)
    exact exec_palette_fails (paletteOf_badCsa hf hpal hwide hbase)
  · obtain ⟨-, cpf, hcpf, hnarrow⟩ := cpsmFormat_of_narrow hcpsm
    exact exec_palette_fails (paletteOf_badCsa hf hpal hcpf (by rwa [if_neg hnarrow]))
  · obtain ⟨cpf, hpalette, -⟩ := exists_paletteOf hf hpal hlegal
    exact exec_clutwr_zeroWidth hpalette hcsm hcbw

/-- Settles O22: below `n` the entry is the colour read from `CLUT`, its two halves as a shift and a union. -/
theorem clutrd32CopiesThePalette : Obligations.Clutrd32CopiesThePalette := by
  intro texd alphad s f n b hf hpal hlegal
  obtain ⟨cpf, hpalette, hwide⟩ := exists_paletteOf hf hpal hlegal
  refine ⟨clut32Rebuilt s n cpf texd alphad, exec_clutrd32_of_palette hpalette, fun i hi => ?_⟩
  rw [clut32Rebuilt, getElem_clut32Store]
  refine if_congr Iff.rfl ?_ rfl
  unfold clutColour
  exact if_congr hwide (append_eq_or ..) rfl

/-- Settles O19: the rebuilt state, entry by entry, or the failed arena check of one source unit. -/
theorem clutwrRebuildsThePalette : Obligations.ClutwrRebuildsThePalette := by
  intro texd clutd s f cpf n b csm sig swapped px py pbp pbw entry hf hpal hlegal hbw hstale
  obtain ⟨hcpsm, hfit⟩ :
      cpsmFormat (Texd.cpsm texd) = some cpf ∧ b + n ≤ if cpf = .ct32 then 256 else 512 := by
    rcases hlegal with ⟨hcode, rfl, hbase⟩ | ⟨hcode, rfl, hbase⟩ | ⟨hcode, rfl, hbase⟩
    · exact ⟨cpsmFormat_eq_some_iff.2 (.inl ⟨hcode, rfl⟩), hbase⟩
    · exact ⟨cpsmFormat_eq_some_iff.2 (.inr (.inl ⟨hcode, rfl⟩)), hbase⟩
    · exact ⟨cpsmFormat_eq_some_iff.2 (.inr (.inr ⟨hcode, rfl⟩)), hbase⟩
  have hsrc (i : Nat) : srcPixel n texd clutd i = (px i, py i) := srcPixel_eq ..
  have harena : srcInArena cpf n texd clutd = true ↔ ∀ i < n, blockAddr cpf (px i) (py i) pbp pbw < 16384 := by
    simp only [srcInArena_iff, hsrc]
    rfl
  have hentry : srcEntry s.mem cpf n texd clutd = entry := by
    funext i
    rw [srcEntry, hsrc]
    rfl
  have hpalette : paletteOf texd = .ok (n, cpf) := paletteOf_of_legal hf hpal hcpsm hfit
  refine ⟨fun hin => ?_, fun ⟨i, hi, hout⟩ => ?_⟩
  · refine ⟨clutStore s.clut (wideEntry cpf) b n entry, ?_, fun i hi => ⟨?_, fun hwide => ?_⟩,
      fun k hk hlow hhigh => ?_⟩
    · rw [exec_clutwr_rebuilds hpalette hbw hstale (harena.2 hin), clutRebuilt_succeeded, hentry]
      rfl
    · rw [clutAt_clutStore_low (hfit.trans (by split <;> decide)) hi, BitVec.setWidth_eq_extractLsb' (by decide)]
    · rw [if_pos hwide] at hfit
      rw [clutAt_clutStore_high (wideEntry_iff.2 hwide) hfit hi, BitVec.setWidth_ushiftRight_eq_extractLsb]
    · exact clutAt_clutStore_of_outside hk hlow fun h => hhigh ⟨wideEntry_iff.1 h.1, h.2⟩
  · exact exec_clutwr_oob hpalette hbw hstale fun hin => absurd hout (Nat.not_le.2 (harena.1 hin i hi))

/-- Settles O23: the units in the arena are those of the descriptors, so both states rebuild, and both palettes are read
back as the colours of the same entries. -/
theorem clutIsDeterministic : Obligations.ClutIsDeterministic := by
  intro texd clutd alphad s s' t t' u u' f cpf hf hcpsm hdirty hdirty' hsame ht ht' hok hu hu'
  rcases execClutwr_cases ht with ⟨c, rfl⟩ | ⟨n, g, hpalette, hzero, ⟨hclean, -, -⟩ | ⟨hin, rfl⟩⟩
  · exact absurd hok (cv_status_ne_zero c)
  · exact absurd (hdirty.symm.trans hclean) (by decide)
  · obtain ⟨⟨f', hf', rfl⟩, hg, hbase⟩ := paletteOf_ok hpalette
    obtain rfl : f = f' := Option.some.inj (hf.symm.trans hf')
    obtain rfl : cpf = g := Option.some.inj (hcpsm.symm.trans hg)
    rw [exec_clutwr_rebuilds hpalette (fun hcsm hcbw => hzero ⟨hcsm, hcbw⟩) (.inl hdirty') hin] at ht'
    rw [exec_clutrd32_of_palette hpalette] at hu hu'
    cases ht'
    cases hu
    cases hu'
    refine ⟨rfl, rfl, rfl, fun i hi hlt => ?_⟩
    rw [getElem_clut32Rebuilt_of_clutRebuilt hbase hlt, getElem_clut32Rebuilt_of_clutRebuilt hbase hlt, hsame i hlt]

end Sys2Proof.Machine
end

section
/-! The walk of a transfer by the index of its positions in raster order (43_swizzle_engine.md R286). -/

namespace Sys2Proof.Machine

/-! ### Cells of a grid in raster order -/

/-- Cell `x` of row `y` of a grid of width `w`, counted in raster order. -/
theorem mod_div_of_cell {w x : Nat} (hx : x < w) (y : Nat) : (y * w + x) % w = x ∧ (y * w + x) / w = y :=
  ((Nat.div_mod_unique (Nat.zero_lt_of_lt hx)).2 ⟨by ring, hx⟩).symm

/-- An index below the area of a grid counts a cell of a row of the grid. -/
theorem div_lt_of_lt_area {i w h : Nat} (hi : i < w * h) : i / w < h := Nat.div_lt_of_lt_mul hi

theorem mod_lt_of_lt_area {i w h : Nat} (hi : i < w * h) : i % w < w :=
  Nat.mod_lt _ (Nat.pos_of_mul_pos_right (Nat.zero_lt_of_lt hi))

theorem cell_lt_area {x y w h : Nat} (hx : x < w) (hy : y < h) : y * w + x < w * h := by
  calc y * w + x < (y + 1) * w := by rw [Nat.add_one_mul]; omega
    _ ≤ h * w := Nat.mul_le_mul_right _ hy
    _ = w * h := Nat.mul_comm ..

/-- Row after row is raster order. -/
theorem flatMap_range_rows {α : Type} (g : Nat → Nat → α) (w h : Nat) :
    (List.range h).flatMap (fun y => (List.range w).map fun x => g x y) =
      (List.range (w * h)).map fun k => g (k % w) (k / w) := by
  induction h with
  | zero => simp
  | succ h ih =>
    have hrow : ∀ x ∈ List.range w, g ((w * h + x) % w) ((w * h + x) / w) = g x h := fun x hx => by
      obtain ⟨hmod, hdiv⟩ := mod_div_of_cell (List.mem_range.1 hx) h
      rw [Nat.mul_comm w h, hmod, hdiv]
    rw [List.range_succ, List.flatMap_append, ih, List.flatMap_singleton, Nat.mul_succ, List.range_add, List.map_append,
      List.map_map, List.map_congr_left (f := _ ∘ _) hrow]

/-- The pixels of a rectangle by their index in raster order. -/
theorem Rect.pixels_eq_map_range (r : Rect) :
    r.pixels = (List.range ((r.right - r.left) * (r.bottom - r.top))).map fun k =>
      (r.left + k % (r.right - r.left), r.top + k / (r.right - r.left)) := by
  rw [← flatMap_range_rows fun x y => (r.left + x, r.top + y)]
  simp only [Rect.pixels, List.range'_eq_map_range, List.flatMap_map, List.map_map, Function.comp_def]

/-! ### The positions of a walk -/

/-- The position of index `i` of a walk, counted in raster order from its origin. -/
def Walk.pos (k : Walk) (i : Nat) : Nat × Nat := (k.x0 + i % k.w, k.y0 + i / k.w)

/-- The index of a position. -/
def Walk.index (k : Walk) (p : Nat × Nat) : Nat := (p.2 - k.y0) * k.w + (p.1 - k.x0)

section
variable {k : Walk} {i j n : Nat} {p : Nat × Nat}

theorem Walk.pos_zero (k : Walk) : k.pos 0 = k.first := by simp [Walk.pos, Walk.first]

theorem Walk.pos_area (hw : 0 < k.w) : k.pos (k.w * k.h) = k.stop := by
  simp [Walk.pos, Walk.stop, Nat.mul_div_cancel_left _ hw]

theorem Walk.index_pos (k : Walk) (i : Nat) : k.index (k.pos i) = i := by
  rw [Walk.index, Walk.pos, Nat.add_sub_cancel_left, Nat.add_sub_cancel_left, Nat.div_add_mod']

theorem Walk.pos_inj (h : k.pos i = k.pos j) : i = j := by
  rw [← k.index_pos i, h, k.index_pos]

theorem Walk.inside_iff :
    k.inside p = true ↔ k.x0 ≤ p.1 ∧ p.1 < k.x0 + k.w ∧ k.y0 ≤ p.2 ∧ p.2 < k.y0 + k.h := by
  simp [Walk.inside, and_assoc]

theorem Walk.inside_pos (hi : i < k.w * k.h) : k.inside (k.pos i) = true := by
  have hx := mod_lt_of_lt_area hi
  have hy := div_lt_of_lt_area hi
  exact Walk.inside_iff.2
    ⟨Nat.le_add_right .., Nat.add_lt_add_left hx _, Nat.le_add_right .., Nat.add_lt_add_left hy _⟩

/-- A position inside the walk is that of its index. -/
theorem Walk.pos_index (h : k.inside p = true) : k.pos (k.index p) = p := by
  obtain ⟨hx0, hx, hy0, hy⟩ := Walk.inside_iff.1 h
  obtain ⟨hmod, hdiv⟩ := mod_div_of_cell (w := k.w) (x := p.1 - k.x0) (by omega) (p.2 - k.y0)
  rw [Walk.pos, Walk.index, hmod, hdiv, Nat.add_sub_cancel' hx0, Nat.add_sub_cancel' hy0]

theorem Walk.index_lt (h : k.inside p = true) : k.index p < k.w * k.h := by
  obtain ⟨hx0, hx, hy0, hy⟩ := Walk.inside_iff.1 h
  exact cell_lt_area (by omega) (by omega)

/-- `STEP` goes to the next index. -/
theorem Walk.step_pos (hw : 0 < k.w) (i : Nat) : k.step (k.pos i) = k.pos (i + 1) := by
  have hlt := Nat.mod_lt i hw
  have hsplit := Nat.div_add_mod' i k.w
  unfold Walk.step Walk.pos
  split
  · obtain ⟨hmod, hdiv⟩ := mod_div_of_cell (w := k.w) (x := i % k.w + 1) (by omega) (i / k.w)
    rw [← Nat.add_assoc, hsplit] at hmod hdiv
    rw [hmod, hdiv, Nat.add_assoc]
  · obtain ⟨hmod, hdiv⟩ := mod_div_of_cell hw (i / k.w + 1)
    rw [Nat.add_one_mul, Nat.add_zero, show i / k.w * k.w + k.w = i + 1 by omega] at hmod hdiv
    rw [hmod, hdiv, Nat.add_assoc]
    rfl

theorem Walk.after_pos (hw : 0 < k.w) (n i : Nat) : k.after n (k.pos i) = k.pos (i + n) := by
  induction n generalizing i with
  | zero => rfl
  | succ n ih => rw [Walk.after, Walk.step_pos hw, ih, Nat.add_right_comm, Nat.add_assoc]

theorem Walk.positions_pos (hw : 0 < k.w) (n i : Nat) :
    k.positions n (k.pos i) = (List.range n).map fun j => k.pos (i + j) := by
  induction n generalizing i with
  | zero => rfl
  | succ n ih =>
    rw [Walk.positions, Walk.step_pos hw, ih, List.range_succ_eq_map, List.map_cons, List.map_map]
    simp only [Function.comp_def, Nat.add_zero, Nat.succ_eq_add_one, Nat.add_right_comm, Nat.add_assoc]

/-- `REMAINING` counts the indices from the position's own to the area. -/
theorem Walk.remaining_pos (k : Walk) (i : Nat) : k.remaining (k.pos i) = k.w * k.h - i := by
  have hsplit := Nat.div_add_mod' i k.w
  rw [Walk.remaining, Walk.pos, Nat.add_sub_cancel_left, Nat.add_sub_add_left, Nat.sub_mul, Nat.mul_comm k.h]
  omega

end

end Sys2Proof.Machine
end

section
/-! Byte strings as rows of bits, and the linear buffers of 43_swizzle_engine.md R282 said in these bits. -/

namespace Sys2Proof.Machine

/-! ### The bits of a byte string -/

/-- Bit `n` of a byte string, bit `k` of byte `i` being bit `8 * i + k`. -/
def streamBit (s : List Byte) (n : Nat) : Bool := (byteAt s (n / 8)).getLsbD (n % 8)

theorem getLsbD_byteAt (s : List Byte) (i k : Nat) :
    (byteAt s i).getLsbD k = (decide (k < 8) && streamBit s (8 * i + k)) := by
  by_cases hk : k < 8
  · simp [streamBit, hk, show (8 * i + k) / 8 = i by omega, show (8 * i + k) % 8 = k by omega]
  · rw [BitVec.getLsbD_of_ge _ k (Nat.not_lt.1 hk), decide_eq_false hk, Bool.false_and]

/-- Byte strings of one length with the same bits are equal. -/
theorem eq_of_streamBit_eq {s s' : List Byte} (hlen : s.length = s'.length)
    (h : ∀ n < 8 * s.length, streamBit s n = streamBit s' n) : s = s' := by
  refine List.ext_getElem hlen fun i hi hi' => ?_
  have hbyte : byteAt s i = byteAt s' i := by
    refine BitVec.eq_of_getLsbD_eq fun k hk => ?_
    rw [getLsbD_byteAt, getLsbD_byteAt, h _ (by omega)]
  rwa [byteAt, byteAt, List.getD_eq_getElem _ _ hi, List.getD_eq_getElem _ _ hi'] at hbyte

/-- The bits of the first bytes of one string and then those of another. -/
theorem streamBit_take_append {s s' : List Byte} {c : Nat} (hc : c ≤ s.length) (n : Nat) :
    streamBit (s.take c ++ s') n = if n < 8 * c then streamBit s n else streamBit s' (n - 8 * c) := by
  have hlen : (s.take c).length = c := by rw [List.length_take, Nat.min_eq_left hc]
  unfold streamBit byteAt
  split
  · rw [List.getD_append _ _ _ _ (by omega), List.getD_eq_getElem?_getD, List.getElem?_take_of_lt (by omega),
      ← List.getD_eq_getElem?_getD]
  · rw [List.getD_append_right _ _ _ _ (by omega), hlen, show (n - 8 * c) / 8 = n / 8 - c by omega,
      show (n - 8 * c) % 8 = n % 8 by omega]

/-- A byte of strings of one length put one after another. -/
theorem byteAt_flatten {rows : List (List Byte)} {len : Nat} (hlen : ∀ row ∈ rows, row.length = len) (hpos : 0 < len)
    (i : Nat) : byteAt rows.flatten i = byteAt (rows.getD (i / len) []) (i % len) := by
  induction rows generalizing i with
  | nil => simp [byteAt]
  | cons row rows ih =>
    have hrow : row.length = len := hlen row List.mem_cons_self
    rw [List.flatten_cons]
    by_cases hi : i < len
    · rw [byteAt, List.getD_append _ _ _ _ (by omega), Nat.div_eq_of_lt hi, Nat.mod_eq_of_lt hi]
      rfl
    · obtain ⟨i, rfl⟩ := Nat.exists_eq_add_of_le' (Nat.not_lt.1 hi)
      rw [byteAt, List.getD_append_right _ _ _ _ (by omega), hrow, Nat.add_sub_cancel, Nat.add_div_right _ hpos,
        Nat.add_mod_right, List.getD_cons_succ]
      exact ih (fun row' h => hlen row' (List.mem_cons_of_mem _ h)) i

theorem streamBit_flatten {rows : List (List Byte)} {len : Nat} (hlen : ∀ row ∈ rows, row.length = len) (hpos : 0 < len)
    (n : Nat) : streamBit rows.flatten n = streamBit (rows.getD (n / (8 * len)) []) (n % (8 * len)) := by
  rw [streamBit, byteAt_flatten hlen hpos, streamBit, Nat.div_div_eq_div_mul, Nat.mod_mul_right_div_self,
    Nat.mod_mul_right_mod]

/-! ### Elements -/

/-- The widths of an element of a linear buffer (43_swizzle_engine.md R282). -/
def ElementWidth (e : Nat) : Prop := e = 4 ∨ e = 8 ∨ e = 16 ∨ e = 24 ∨ e = 32

theorem ElementWidth.pos {e : Nat} (he : ElementWidth e) : 0 < e := by
  unfold ElementWidth at he
  omega

/-- An element in a stream is as wide as a raw value (10_state.md R26, 41_pixel_io.md R191). -/
theorem trbpp_eq_rawBits (f : Format) : (fmt f).trbpp = rawBits f := by cases f <;> rfl

theorem elementWidth_trbpp (f : Format) : ElementWidth (fmt f).trbpp := by
  unfold ElementWidth
  cases f <;> decide

/-- A byte put below the bytes that follow it in the string. -/
theorem getLsbD_append_byteAt {w a : Nat} {s : List Byte} {high : BitVec w}
    (hhigh : ∀ i, high.getLsbD i = (decide (i < w) && streamBit s (8 * (a + 1) + i))) (i : Nat) :
    (high ++ byteAt s a).getLsbD i = (decide (i < w + 8) && streamBit s (8 * a + i)) := by
  rw [BitVec.getLsbD_append, hhigh, getLsbD_byteAt]
  by_cases hi : i < 8
  · simp [hi, show i < w + 8 by omega]
  · simp [hi, show 8 * (a + 1) + (i - 8) = 8 * a + i by omega, show i - 8 < w ↔ i < w + 8 by omega]

/-- The bits of an element (43_swizzle_engine.md R282). -/
theorem getLsbD_lin {e : Nat} (he : ElementWidth e) (s : List Byte) (k i : Nat) :
    (lin s e k).getLsbD i = (decide (i < e) && streamBit s (e * k + i)) := by
  have h16 (a : Nat) := getLsbD_append_byteAt (getLsbD_byteAt s (a + 1))
  have h24 (a : Nat) := getLsbD_append_byteAt (h16 (a + 1))
  have h32 (a : Nat) := getLsbD_append_byteAt (h24 (a + 1))
  have hword {v b : Bool} (n : Nat) (hn : n ≤ 32) (h : v = (decide (i < n) && b)) :
      (decide (i < 32) && v) = (decide (i < n) && b) := by
    by_cases hi : i < n
    · simp [h, hi, show i < 32 by omega]
    · simp [h, hi]
  rcases he with rfl | rfl | rfl | rfl | rfl
  · simp only [lin, nibbleShift, BitVec.getLsbD_setWidth, BitVec.getLsbD_and, BitVec.getLsbD_ushiftRight, getLsbD_byteAt,
      getLsbD_nibbleMask]
    by_cases hi : i < 4
    · simp [hi, show i < 32 by omega, show 4 * (k % 2) + i < 8 by omega,
        show 8 * (k / 2) + (4 * (k % 2) + i) = 4 * k + i by omega]
    · simp [hi]
  · rw [lin, BitVec.getLsbD_setWidth]
    exact hword 8 (by decide) (getLsbD_byteAt s k i)
  · rw [lin, BitVec.getLsbD_setWidth, show 16 * k = 8 * (2 * k) by omega]
    exact hword 16 (by decide) (h16 (2 * k) i)
  · rw [lin, BitVec.getLsbD_setWidth, show 24 * k = 8 * (3 * k) by omega]
    exact hword 24 (by decide) (h24 (3 * k) i)
  · rw [show 32 * k = 8 * (4 * k) by omega]
    exact h32 (4 * k) i

/-- An element has no bit past its width. -/
theorem lin_toNat_lt {e : Nat} (he : ElementWidth e) (s : List Byte) (k : Nat) : (lin s e k).toNat < 2 ^ e := by
  refine Nat.lt_pow_two_of_testBit _ fun i hi => ?_
  rw [BitVec.testBit_toNat, getLsbD_lin he, decide_eq_false (Nat.not_lt.2 hi), Bool.false_and]

/-- Elements with the same bits in their streams are equal. -/
theorem lin_congr {e k k' : Nat} (he : ElementWidth e) {s s' : List Byte}
    (h : ∀ i < e, streamBit s (e * k + i) = streamBit s' (e * k' + i)) : lin s e k = lin s' e k' := by
  refine BitVec.eq_of_getLsbD_eq fun i _ => ?_
  rw [getLsbD_lin he, getLsbD_lin he]
  by_cases hi : i < e
  · rw [h i hi]
  · rw [decide_eq_false hi, Bool.false_and, Bool.false_and]

/-- A bit of a stream is a bit of the element that holds it. -/
theorem streamBit_eq_getLsbD_lin {e : Nat} (he : ElementWidth e) (s : List Byte) (n : Nat) :
    streamBit s n = (lin s e (n / e)).getLsbD (n % e) := by
  rw [getLsbD_lin he, decide_eq_true (Nat.mod_lt _ he.pos), Bool.true_and, Nat.div_add_mod]

/-! ### Packed rows -/

theorem byteAt_bytesLE (n : Nat) (v : Word32) {i : Nat} (hi : i < n) :
    byteAt (bytesLE n v) i = v.extractLsb' (8 * i) 8 := by
  simp [byteAt, bytesLE, hi]

theorem length_packNibbles (vs : List Word32) : (packNibbles vs).length = (vs.length + 1) / 2 := by
  induction vs using packNibbles.induct with
  | case1 => simp [packNibbles]
  | case2 v => simp [packNibbles]
  | case3 v w rest ih =>
    simp only [packNibbles, List.length_cons, ih]
    omega

/-- A byte of packed nibbles; a nibble that no element fills is zero. -/
theorem byteAt_packNibbles (vs : List Word32) (i : Nat) :
    byteAt (packNibbles vs) i =
      (vs.getD (2 * i + 1) 0).extractLsb' 0 4 ++ (vs.getD (2 * i) 0).extractLsb' 0 4 := by
  induction vs using packNibbles.induct generalizing i with
  | case1 => simp [packNibbles, byteAt]
  | case2 v =>
    cases i with
    | zero =>
      refine BitVec.eq_of_getLsbD_eq fun b hb => ?_
      simp only [packNibbles, byteAt, List.getD_cons_zero]
      rw [BitVec.getLsbD_and, getLsbD_nibbleMask, BitVec.getLsbD_append]
      by_cases hlow : b < 4
      · simp [hlow, hb]
      · simp [hlow]
    | succ i => simp [packNibbles, byteAt]
  | case3 v w rest ih =>
    rw [packNibbles]
    cases i with
    | zero => rfl
    | succ i => exact ih i

theorem streamBit_packNibbles (vs : List Word32) (n : Nat) :
    streamBit (packNibbles vs) n = (vs.getD (n / 4) 0).getLsbD (n % 4) := by
  rw [streamBit, byteAt_packNibbles, BitVec.getLsbD_append]
  by_cases hlow : n % 8 < 4
  · rw [if_pos hlow, BitVec.getLsbD_extractLsb', decide_eq_true hlow, Bool.true_and, Nat.zero_add,
      show 2 * (n / 8) = n / 4 by omega, show n % 8 = n % 4 by omega]
  · rw [if_neg hlow, BitVec.getLsbD_extractLsb', decide_eq_true (by omega), Bool.true_and, Nat.zero_add,
      show 2 * (n / 8) + 1 = n / 4 by omega, show n % 8 - 4 = n % 4 by omega]

theorem streamBit_flatMap_bytesLE {len : Nat} (hpos : 0 < len) (vs : List Word32) (n : Nat) :
    streamBit (vs.flatMap (bytesLE len)) n = (vs.getD (n / (8 * len)) 0).getLsbD (n % (8 * len)) := by
  have hlen : ∀ row ∈ vs.map (bytesLE len), row.length = len := by simp [bytesLE]
  have hbyte : n % (8 * len) / 8 < len := by
    rw [Nat.div_lt_iff_lt_mul (by decide), Nat.mul_comm len]
    exact Nat.mod_lt _ (by omega)
  rw [List.flatMap_def, streamBit_flatten hlen hpos]
  by_cases hn : n / (8 * len) < vs.length
  · rw [List.getD_eq_getElem _ _ (by simpa using hn), List.getD_eq_getElem _ _ hn, List.getElem_map, streamBit,
      byteAt_bytesLE _ _ hbyte, BitVec.getLsbD_extractLsb', decide_eq_true (by omega), Bool.true_and, Nat.div_add_mod]
  · rw [List.getD_eq_default _ _ (by simpa using hn), List.getD_eq_default _ _ (Nat.not_lt.1 hn)]
    simp [streamBit, byteAt]

/-- A row is packed by nibbles or by whole bytes (43_swizzle_engine.md R282). -/
theorem packRow_cases {e : Nat} (he : ElementWidth e) (vs : List Word32) :
    e = 4 ∧ packRow e vs = packNibbles vs ∨ ∃ len, e = 8 * len ∧ 0 < len ∧ packRow e vs = vs.flatMap (bytesLE len) := by
  rcases he with rfl | rfl | rfl | rfl | rfl
  · exact .inl ⟨rfl, rfl⟩
  · exact .inr ⟨1, rfl, by decide, rfl⟩
  · exact .inr ⟨2, rfl, by decide, rfl⟩
  · exact .inr ⟨3, rfl, by decide, rfl⟩
  · exact .inr ⟨4, rfl, by decide, rfl⟩

theorem length_packRow {e : Nat} (he : ElementWidth e) (vs : List Word32) :
    (packRow e vs).length = (vs.length * e + 7) / 8 := by
  rcases packRow_cases he vs with ⟨rfl, hrow⟩ | ⟨len, rfl, -, hrow⟩ <;> rw [hrow]
  · rw [length_packNibbles]
    omega
  · rw [Nat.mul_left_comm, Nat.mul_add_div (by decide)]
    simp [bytesLE]

/-- The bits of a packed row; past the last element they are zero. -/
theorem streamBit_packRow {e : Nat} (he : ElementWidth e) (vs : List Word32) (n : Nat) :
    streamBit (packRow e vs) n = (vs.getD (n / e) 0).getLsbD (n % e) := by
  rcases packRow_cases he vs with ⟨rfl, hrow⟩ | ⟨len, rfl, hpos, hrow⟩ <;> rw [hrow]
  · exact streamBit_packNibbles vs n
  · exact streamBit_flatMap_bytesLE hpos vs n

/-- An element of a packed row, zero past the last (43_swizzle_engine.md R282, R295). -/
theorem lin_packRow {e i : Nat} {v : Word32} (he : ElementWidth e) {vs : List Word32} (hv : vs.getD i 0 = v)
    (hfit : v.toNat < 2 ^ e) : lin (packRow e vs) e i = v := by
  refine BitVec.eq_of_getLsbD_eq fun b _ => ?_
  rw [getLsbD_lin he, streamBit_packRow he]
  by_cases hb : b < e
  · rw [decide_eq_true hb, Bool.true_and, Nat.mul_add_div he.pos, Nat.div_eq_of_lt hb, Nat.add_zero, Nat.mul_add_mod,
      Nat.mod_eq_of_lt hb, hv]
  · rw [decide_eq_false hb, Bool.false_and, ← BitVec.testBit_toNat]
    exact (Nat.testBit_lt_two_pow (hfit.trans_le (Nat.pow_le_pow_right (by decide) (Nat.not_lt.1 hb)))).symm

end Sys2Proof.Machine
end

section
/-! `SWZIN` (43_swizzle_engine.md R290, R291): its checks, its start, and its state after as a function of the index it
starts from; what GSMEM then holds; and two calls as one. -/

namespace Sys2Proof.Machine

/-! ### The checks and the start -/

/-- The checks of `SWZIN.f` on its descriptor pass (30_encoding.md R105, 43_swizzle_engine.md R284, R290). -/
structure SwzinLegal (f : Format) (d : Xferd) : Prop where
  width : 0 < (destWalk d).w
  height : 0 < (destWalk d).h
  xdir : xferXdir d = 0
  dir : xferDir d = 0
  psm : xferDpsm d = f.code
  right : (destWalk d).x0 + (destWalk d).w ≤ 2048
  bottom : (destWalk d).y0 + (destWalk d).h ≤ 2048
  bw : xferDbw d ≠ 0

theorem swzinChecks_pass_iff {f : Format} {d : Xferd} : firstFailure (swzinChecks f d) = none ↔ SwzinLegal f d := by
  rw [firstFailure_swzinChecks, firstFailure_xferChecks, Option.or_eq_none_iff]
  constructor
  · intro ⟨hfirst, hrest⟩
    split_ifs at hfirst hrest with harea hdir hpsm hbound hbw
    rw [not_or] at harea hdir hbound
    exact ⟨Nat.pos_of_ne_zero harea.1, Nat.pos_of_ne_zero harea.2, not_not.1 hdir.1, not_not.1 hdir.2, not_not.1 hpsm,
      Nat.le_of_not_lt hbound.1, Nat.le_of_not_lt hbound.2, hbw⟩
  · intro ⟨hw, hh, hxdir, hdir, hpsm, hright, hbottom, hbw⟩
    refine ⟨(if_neg ?_).trans (if_neg ?_), (if_neg ?_).trans ((if_neg ?_).trans (if_neg hbw))⟩
    · exact not_or.2 ⟨Nat.ne_of_gt hw, Nat.ne_of_gt hh⟩
    · exact not_or.2 ⟨not_not.2 hxdir, not_not.2 hdir⟩
    · exact not_not.2 hpsm
    · exact not_or.2 ⟨Nat.not_lt.2 hright, Nat.not_lt.2 hbottom⟩

section
variable {k : Walk} {resume : Bool} {cur : Cursor} {p : Nat × Nat}

theorem swzinStart_eq_some_iff :
    swzinStart k resume cur = some p ↔
      resume = false ∧ p = k.first ∨
        resume = true ∧ cur.active = true ∧ k.inside (cur.x.toNat, cur.y.toNat) = true ∧
          p = (cur.x.toNat, cur.y.toNat) := by
  cases resume with
  | false => simp [swzinStart, @eq_comm _ p]
  | true => simp [swzinStart, @eq_comm _ p, and_assoc]

/-- No start: there is no transfer in flight, or its cursor is outside the walk (43_swizzle_engine.md R290). -/
theorem swzinStart_eq_none (h : cur.active = false ∨ k.inside (cur.x.toNat, cur.y.toNat) = false) :
    swzinStart k true cur = none := by
  rcases h with h | h <;> simp [swzinStart, h]

/-- Every start is a position of the walk. -/
theorem exists_pos_of_swzinStart (hw : 0 < k.w) (hh : 0 < k.h) (h : swzinStart k resume cur = some p) :
    ∃ i < k.w * k.h, p = k.pos i := by
  rcases swzinStart_eq_some_iff.1 h with ⟨-, rfl⟩ | ⟨-, -, hin, rfl⟩
  · exact ⟨0, Nat.mul_pos hw hh, k.pos_zero.symm⟩
  · exact ⟨k.index _, Walk.index_lt hin, (Walk.pos_index hin).symm⟩

/-- The cursor is left inactive exactly at the end of the walk. -/
theorem cursorAfter_pos (hw : 0 < k.w) (i : Nat) :
    cursorAfter (k.pos i) k.stop =
      if i = k.w * k.h then ⟨0, 0, false⟩ else ⟨BitVec.ofNat 11 (k.pos i).1, BitVec.ofNat 11 (k.pos i).2, true⟩ := by
  unfold cursorAfter
  rw [← Walk.pos_area hw]
  exact if_congr ⟨Walk.pos_inj, congrArg _⟩ rfl rfl

/-- A transfer resumes where the one before it stopped, unless that was the end (43_swizzle_engine.md R291). -/
theorem eq_of_swzinStart_cursorAfter {i j : Nat} (hw : 0 < k.w) (hright : k.x0 + k.w ≤ 2048) (hbottom : k.y0 + k.h ≤ 2048)
    (hi : i ≤ k.w * k.h) (h : swzinStart k true (cursorAfter (k.pos i) k.stop) = some (k.pos j)) :
    i < k.w * k.h ∧ j = i := by
  rw [cursorAfter_pos hw] at h
  split at h
  · rw [swzinStart_eq_none (.inl rfl)] at h
    contradiction
  · have hlt : i < k.w * k.h := by omega
    obtain ⟨-, hx, -, hy⟩ := Walk.inside_iff.1 (Walk.inside_pos hlt)
    obtain ⟨hcontra, -⟩ | ⟨-, -, -, hpos⟩ := swzinStart_eq_some_iff.1 h
    · contradiction
    · have hx11 : (k.pos i).1 < 2 ^ 11 := by omega
      have hy11 : (k.pos i).2 < 2 ^ 11 := by omega
      rw [BitVec.toNat_ofNat, BitVec.toNat_ofNat, Nat.mod_eq_of_lt hx11, Nat.mod_eq_of_lt hy11] at hpos
      exact ⟨hlt, Walk.pos_inj hpos⟩

end

/-! ### The state after -/

/-- How many pixels a `SWZIN` writes from index `i` on (43_swizzle_engine.md R290, R292). -/
def swzinRoom (f : Format) (d : Xferd) (src : List Byte) (i : Nat) : Nat :=
  min ((destWalk d).w * (destWalk d).h - i) (8 * src.length / (fmt f).trbpp)

/-- The pixels of the walk with the indices from `i` to `i + n` have their units in the arena. -/
def WalkInArena (f : Format) (d : Xferd) (i n : Nat) : Prop :=
  ∀ j < n, inArena f (xferDbp d).toNat (xferDbw d).toNat ((destWalk d).pos (i + j)) = true

theorem WalkInArena.add {f : Format} {d : Xferd} {i n₁ n₂ : Nat} (h₁ : WalkInArena f d i n₁)
    (h₂ : WalkInArena f d (i + n₁) n₂) : WalkInArena f d i (n₁ + n₂) := by
  intro j hj
  by_cases hlt : j < n₁
  · exact h₁ j hlt
  · have hright := h₂ (j - n₁) (by omega)
    rwa [Nat.add_assoc, Nat.add_sub_cancel' (Nat.not_lt.1 hlt)] at hright

/-- GSMEM after the first `n` elements of `src` are written to the pixels of the walk from index `i` on. -/
def swzinMem (f : Format) (d : Xferd) (src : List Byte) (i n : Nat) (m : Memory) : Memory :=
  swzinWrite f (xferDbp d).toNat (xferDbw d).toNat src ((List.range n).map fun j => (destWalk d).pos (i + j)) 0 m

/-- The cursor after index `i` is reached (43_swizzle_engine.md R290). -/
def walkCursor (d : Xferd) (i : Nat) : Cursor := cursorAfter ((destWalk d).pos i) (destWalk d).stop

/-- The state after a `SWZIN` that wrote `n` pixels from index `i` on (43_swizzle_engine.md R290). -/
def swzinAfter (f : Format) (d : Xferd) (src : List Byte) (s : State) (i n : Nat) : State :=
  State.succeeded { s with mem := swzinMem f d src i n s.mem, cur := walkCursor d (i + n) }
    (.transfer (walkCursor d (i + n)).x (walkCursor d (i + n)).y (walkCursor d (i + n)).active
      (ceilDiv (n * (fmt f).trbpp) 8))

section
variable {f : Format} {d : Xferd} {resume : Bool} {src : List Byte} {s t : State} {i : Nat}

theorem swzinCount_pos : swzinCount f (destWalk d) ((destWalk d).pos i) src = swzinRoom f d src i := by
  rw [swzinCount, Walk.remaining_pos, swzinRoom]

theorem all_positions_iff (hw : 0 < (destWalk d).w) :
    ((destWalk d).positions (swzinCount f (destWalk d) ((destWalk d).pos i) src) ((destWalk d).pos i)).all
      (inArena f (xferDbp d).toNat (xferDbw d).toNat) = true ↔ WalkInArena f d i (swzinRoom f d src i) := by
  simp [swzinCount_pos, Walk.positions_pos hw, WalkInArena]

theorem swzinFrom_of_inArena (hw : 0 < (destWalk d).w) (h : WalkInArena f d i (swzinRoom f d src i)) :
    swzinFrom f d src s ((destWalk d).pos i) = .next (swzinAfter f d src s i (swzinRoom f d src i)) := by
  rw [swzinFrom_next ((all_positions_iff hw).2 h), swzinCount_pos, Walk.positions_pos hw, Walk.after_pos hw]
  rfl

theorem swzinFrom_of_not_inArena (hw : 0 < (destWalk d).w) (h : ¬WalkInArena f d i (swzinRoom f d src i)) :
    swzinFrom f d src s ((destWalk d).pos i) = .next (s.failed (.cv .oob)) :=
  if_neg (mt (all_positions_iff hw).1 h)

theorem exec_swzin_of_start {p : Nat × Nat} (hlegal : SwzinLegal f d)
    (hstart : swzinStart (destWalk d) resume s.cur = some p) :
    exec (.swzinOf f d resume src) s = swzinFrom f d src s p := by
  rw [exec_swzinOf, swzin, State.check_eq_go (swzinChecks_pass_iff.2 hlegal), hstart]

theorem exec_swzin_badCur (hlegal : SwzinLegal f d) (hstart : swzinStart (destWalk d) resume s.cur = none) :
    exec (.swzinOf f d resume src) s = .next (s.failed (.cv .badCur)) := by
  rw [exec_swzinOf, swzin, State.check_eq_go (swzinChecks_pass_iff.2 hlegal), hstart]
  rfl

/-- A `SWZIN` that succeeds: its checks passed, it started at a position of the walk, and its pixels lie in the arena. -/
theorem exec_swzin_ok (h : exec (.swzinOf f d resume src) s = .next t) (hok : t.status = 0) :
    SwzinLegal f d ∧ ∃ i < (destWalk d).w * (destWalk d).h,
      swzinStart (destWalk d) resume s.cur = some ((destWalk d).pos i) ∧ WalkInArena f d i (swzinRoom f d src i) ∧
        t = swzinAfter f d src s i (swzinRoom f d src i) := by
  rw [exec_swzinOf] at h
  rcases swzin_cases h with ⟨c, rfl⟩ | ⟨p, hstart, hchecks, hin, hfrom⟩
  · exact absurd hok (cv_status_ne_zero c)
  · have hlegal := swzinChecks_pass_iff.1 ((firstFailure_eq_none _).2 hchecks)
    obtain ⟨i, hi, rfl⟩ := exists_pos_of_swzinStart hlegal.width hlegal.height hstart
    have harena := (all_positions_iff hlegal.width).1 hin
    rw [swzinFrom_of_inArena hlegal.width harena] at hfrom
    exact ⟨hlegal, i, hi, hstart, harena, (Host.Outcome.next.inj hfrom).symm⟩

end

/-! ### GSMEM after -/

/-- Different units have no bit in common (40_address_translator.md R189). -/
theorem feet_disjoint_of_pixelAddr_ne {f : Format} {x y x' y' bp bw : Nat}
    (h : pixelAddr f x y bp bw ≠ pixelAddr f x' y' bp bw) (n : Nat) :
    ¬((footBit f x y bp bw ≤ n ∧ n < footBit f x y bp bw + rawBits f) ∧
      footBit f x' y' bp bw ≤ n ∧ n < footBit f x' y' bp bw + rawBits f) := by
  have hfit : (fmt f).shift + rawBits f ≤ (fmt f).cls.bits := by cases f <;> decide
  rintro ⟨⟨hlo, hhi⟩, hlo', hhi'⟩
  unfold footBit at hlo hhi hlo' hhi'
  generalize pixelAddr f x y bp bw = a at *
  generalize pixelAddr f x' y' bp bw = a' at *
  refine h (Nat.le_antisymm (Nat.le_of_lt_succ ?_) (Nat.le_of_lt_succ ?_)) <;>
    refine Nat.lt_of_mul_lt_mul_left (a := (fmt f).cls.bits) ?_ <;> rw [Nat.mul_succ] <;> omega

/-- A pixel just written with an element reads as the element. -/
theorem readPixel_writePixel_lin (f : Format) (m : Memory) (x y bp bw : Nat) (src : List Byte) (k : Nat) :
    readPixel (writePixel m f x y bp bw (lin src (fmt f).trbpp k)) f x y bp bw = lin src (fmt f).trbpp k := by
  have hlt := lin_toNat_lt (elementWidth_trbpp f) src k
  rw [readPixel_writePixel_same, ← trbpp_eq_rawBits, Nat.mod_eq_of_lt hlt, BitVec.ofNat_toNat, BitVec.setWidth_eq]

/-- The writes as one fold over the numbers of the elements. -/
theorem swzinWrite_map_range (f : Format) (bp bw : Nat) (src : List Byte) (q : Nat → Nat × Nat) (n : Nat) (m : Memory) :
    swzinWrite f bp bw src ((List.range n).map q) 0 m =
      (List.range n).foldl (fun m j => writePixel m f (q j).1 (q j).2 bp bw (lin src (fmt f).trbpp j)) m := by
  induction n with
  | zero => rfl
  | succ n ih =>
    rw [List.range_succ, List.map_append, swzinWrite_append, ih, List.foldl_append, List.length_map, List.length_range,
      Nat.zero_add]
    rfl

/-- Pixels of different addresses hold their elements after all the writes. -/
theorem readPixel_swzinWrite_map_range {f : Format} {bp bw : Nat} {src : List Byte} {q : Nat → Nat × Nat} {n : Nat}
    (hdiff : ∀ i < n, ∀ j < i, pixelAddr f (q i).1 (q i).2 bp bw ≠ pixelAddr f (q j).1 (q j).2 bp bw) (m : Memory) :
    ∀ j < n, readPixel (swzinWrite f bp bw src ((List.range n).map q) 0 m) f (q j).1 (q j).2 bp bw =
      lin src (fmt f).trbpp j := by
  induction n with
  | zero => simp
  | succ n ih =>
    intro j hj
    rw [List.range_succ, List.map_append, swzinWrite_append, List.length_map, List.length_range, Nat.zero_add]
    simp only [List.map_cons, List.map_nil, swzinWrite]
    rcases Nat.lt_succ_iff_lt_or_eq.1 hj with hlt | rfl
    · rw [readPixel_writePixel_of_disjoint _ _ _ _ _ _ (feet_disjoint_of_pixelAddr_ne (hdiff n (Nat.lt_succ_self n) j hlt))]
      exact ih (fun i hi => hdiff i (Nat.lt_succ_of_lt hi)) j hlt
    · exact readPixel_writePixel_lin ..

section
variable {f : Format} {d : Xferd} {src : List Byte} {i n : Nat} {m : Memory}

/-- Within the buffer's width the pixels of the walk have different addresses, so each holds its element
(43_swizzle_engine.md R290, 40_address_translator.md R149 (e)). -/
theorem readPixel_swzinMem (hright : (destWalk d).x0 + (destWalk d).w ≤ pagesPerRow f (xferDbw d).toNat * (fmt f).pw)
    (hn : i + n ≤ (destWalk d).w * (destWalk d).h) :
    ∀ j < n, readPixel (swzinMem f d src i n m) f ((destWalk d).pos (i + j)).1 ((destWalk d).pos (i + j)).2
      (xferDbp d).toNat (xferDbw d).toNat = lin src (fmt f).trbpp j := by
  have hx {j : Nat} (hj : j < n) : ((destWalk d).pos (i + j)).1 < pagesPerRow f (xferDbw d).toNat * (fmt f).pw :=
    (Walk.inside_iff.1 (Walk.inside_pos (show i + j < (destWalk d).w * (destWalk d).h by omega))).2.1.trans_le hright
  refine readPixel_swzinWrite_map_range (fun j hj j' hj' haddr => ?_) m
  obtain ⟨hxx, hyy⟩ := pixelAddr_inj (hx hj) (hx (hj'.trans hj)) haddr
  have hindex := Walk.pos_inj (Prod.ext hxx hyy)
  omega

theorem swzinRoom_add_le (hi : i ≤ (destWalk d).w * (destWalk d).h) :
    i + swzinRoom f d src i ≤ (destWalk d).w * (destWalk d).h := by
  have hle : swzinRoom f d src i ≤ (destWalk d).w * (destWalk d).h - i := Nat.min_le_left ..
  omega

end

/-! ### Two calls -/

/-- The writes depend on the elements written only. -/
theorem swzinWrite_congr {f : Format} {bp bw : Nat} {src src' : List Byte} (ps : List (Nat × Nat)) {k k' : Nat} (m : Memory)
    (h : ∀ j < ps.length, lin src (fmt f).trbpp (k + j) = lin src' (fmt f).trbpp (k' + j)) :
    swzinWrite f bp bw src ps k m = swzinWrite f bp bw src' ps k' m := by
  induction ps generalizing k k' m with
  | nil => rfl
  | cons p ps ih =>
    have h0 := h 0 (Nat.zero_lt_succ _)
    rw [Nat.add_zero, Nat.add_zero] at h0
    rw [swzinWrite, swzinWrite, h0]
    refine ih _ fun j hj => ?_
    have hj1 := h (j + 1) (Nat.succ_lt_succ hj)
    rwa [Nat.add_right_comm, Nat.add_right_comm k', Nat.add_assoc, Nat.add_assoc]

/-- The pixels of two calls, written in one. -/
theorem swzinMem_add (f : Format) (d : Xferd) {src src₁ src₂ : List Byte} (i : Nat) {n₁ n₂ : Nat} (m : Memory)
    (h₁ : ∀ j < n₁, lin src (fmt f).trbpp j = lin src₁ (fmt f).trbpp j)
    (h₂ : ∀ j < n₂, lin src (fmt f).trbpp (n₁ + j) = lin src₂ (fmt f).trbpp j) :
    swzinMem f d src i (n₁ + n₂) m = swzinMem f d src₂ (i + n₁) n₂ (swzinMem f d src₁ i n₁ m) := by
  have hpos : (fun j => (destWalk d).pos (i + j)) ∘ (n₁ + ·) = fun j => (destWalk d).pos (i + n₁ + j) := by
    funext j
    rw [Function.comp_apply, Nat.add_assoc]
  have hleft : swzinMem f d src i n₁ m = swzinMem f d src₁ i n₁ m :=
    swzinWrite_congr _ m (by simpa using h₁)
  rw [← hleft]
  unfold swzinMem
  rw [List.range_add, List.map_append, List.map_map, hpos, swzinWrite_append]
  exact swzinWrite_congr _ _ (by simpa using h₂)

/-- The elements of two streams put together, the first cut after `n` elements of whole bytes. -/
theorem lin_take_append {e n c : Nat} (he : ElementWidth e) {src₁ : List Byte} (hc : c ≤ src₁.length) (hn : n * e = 8 * c)
    (src₂ : List Byte) :
    (∀ j < n, lin (src₁.take c ++ src₂) e j = lin src₁ e j) ∧
      ∀ j, lin (src₁.take c ++ src₂) e (n + j) = lin src₂ e j := by
  refine ⟨fun j hj => lin_congr he fun i hi => ?_, fun j => lin_congr he fun i hi => ?_⟩
  · have hlt : e * j + i < 8 * c := by
      calc e * j + i < e * (j + 1) := by rw [Nat.mul_succ]; omega
        _ ≤ e * n := Nat.mul_le_mul_left _ hj
        _ = 8 * c := by rw [Nat.mul_comm, hn]
    rw [streamBit_take_append hc, if_pos hlt]
  · rw [streamBit_take_append hc, Nat.mul_add, Nat.mul_comm e n, hn, if_neg (by omega), Nat.add_assoc,
      Nat.add_sub_cancel_left]

/-- A call that stops short of the end of the rectangle has used whole bytes, and has them in its stream. -/
theorem bytes_of_room {f : Format} {d : Xferd} {src : List Byte} {i : Nat}
    (hshort : i + swzinRoom f d src i < (destWalk d).w * (destWalk d).h) :
    swzinRoom f d src i * (fmt f).trbpp = 8 * ceilDiv (swzinRoom f d src i * (fmt f).trbpp) 8 ∧
      ceilDiv (swzinRoom f d src i * (fmt f).trbpp) 8 ≤ src.length := by
  have hroom : swzinRoom f d src i = 8 * src.length / (fmt f).trbpp := by
    unfold swzinRoom at hshort ⊢
    omega
  rw [hroom]
  unfold ceilDiv
  rcases elementWidth_trbpp f with he | he | he | he | he <;> rw [he] <;> omega

/-- The bytes one call leaves are counted with those of the next. -/
theorem swzinRoom_take_append {f : Format} {d : Xferd} {src₁ src₂ : List Byte} {i c : Nat}
    (hshort : i + swzinRoom f d src₁ i < (destWalk d).w * (destWalk d).h) (hc : c ≤ src₁.length)
    (hbytes : swzinRoom f d src₁ i * (fmt f).trbpp = 8 * c) :
    swzinRoom f d (src₁.take c ++ src₂) i =
      swzinRoom f d src₁ i + swzinRoom f d src₂ (i + swzinRoom f d src₁ i) := by
  generalize hn : swzinRoom f d src₁ i = n at *
  have hlen : 8 * (src₁.take c ++ src₂).length = n * (fmt f).trbpp + 8 * src₂.length := by
    rw [List.length_append, List.length_take, Nat.min_eq_left hc, hbytes, Nat.mul_add]
  unfold swzinRoom
  rw [hlen, Nat.mul_comm n, Nat.mul_add_div (elementWidth_trbpp f).pos]
  omega

/-! ### The statements -/

/-- Settles O27: the checks pass, and the cursor gives no start. -/
theorem swzinRefusesABadCursor : Obligations.SwzinRefusesABadCursor := by
  intro f d src s x0 y0 w h hw hh hxdir hdir hpsm hright hbottom hbw hcur
  have hlegal : SwzinLegal f d :=
    ⟨Nat.pos_of_ne_zero hw, Nat.pos_of_ne_zero hh, hxdir, hdir, hpsm, hright, hbottom, hbw⟩
  refine exec_swzin_badCur hlegal (swzinStart_eq_none (hcur.imp_right fun hout => Bool.eq_false_iff.2 fun hin => ?_))
  obtain ⟨hx0, hx, hy0, hy⟩ : x0 ≤ s.cur.x.toNat ∧ s.cur.x.toNat < x0 + w ∧ y0 ≤ s.cur.y.toNat ∧ s.cur.y.toNat < y0 + h :=
    Walk.inside_iff.1 hin
  omega

/-- Settles O25: the start is a position of the walk, and what is said of the pixels from there on is the state after. -/
theorem swzinTransfersPixels : Obligations.SwzinTransfersPixels := by
  intro f d resume src s p x0 y0 w h bits bp bw first pos left n unit mem' cur' hw hh hxdir hdir hpsm hright hbottom hbw
    hp
  have hlegal : SwzinLegal f d :=
    ⟨Nat.pos_of_ne_zero hw, Nat.pos_of_ne_zero hh, hxdir, hdir, hpsm, hright, hbottom, hbw⟩
  have hstart : swzinStart (destWalk d) resume s.cur = some p := by
    refine swzinStart_eq_some_iff.2 (hp.imp_right fun ⟨hresume, hactive, hcur, hin⟩ => ⟨hresume, hactive, ?_, hcur⟩)
    rw [← hcur]
    exact Walk.inside_iff.2 hin
  obtain ⟨i, hi, rfl⟩ := exists_pos_of_swzinStart hlegal.width hlegal.height hstart
  have hfirst : first = i := (destWalk d).index_pos i
  clear_value first
  subst hfirst
  have harena : WalkInArena f d first n ↔ ∀ j < n, blockAddr f (pos j).1 (pos j).2 bp bw < 16384 :=
    forall₂_congr fun j _ => inArena_iff_blockAddr ..
  have hmem : swzinMem f d src first n s.mem = mem' := swzinWrite_map_range ..
  have hend : first + n = w * h ↔ n = left := by
    rw [Nat.add_comm]
    exact (eq_tsub_iff_add_eq_of_le hi.le).symm
  have hcur : walkCursor d (first + n) = cur' := (cursorAfter_pos hlegal.width _).trans (if_congr hend rfl rfl)
  rw [exec_swzin_of_start hlegal hstart]
  refine ⟨fun hin => ⟨?_, fun b hb => ?_, fun hwidth j hj => ?_⟩, fun ⟨j, hj, hout⟩ => ?_⟩
  · refine (swzinFrom_of_inArena hlegal.width (harena.2 hin)).trans ?_
    rw [← hmem, ← hcur]
    rfl
  · rw [← hmem]
    refine read_swzinWrite_of_outside _ _ _ fun q hq => ?_
    obtain ⟨j, hj, rfl⟩ := List.mem_map.1 hq
    exact hb j (List.mem_range.1 hj)
  · rw [← hmem]
    exact readPixel_swzinMem hwidth (swzinRoom_add_le hi.le) j hj
  · exact swzinFrom_of_not_inArena hlegal.width fun hin => absurd hout (Nat.not_le.2 (harena.1 hin j hj))

/-- Settles O26: the second call starts where the first stopped, and the first stopped at a whole byte. -/
theorem swzinCallsCompose : Obligations.SwzinCallsCompose := by
  intro f d resume src₁ src₂ s t u x y active consumed hfirst hok hresult hsecond hok'
  obtain ⟨hlegal, i, hi, hstart, harena₁, rfl⟩ := exec_swzin_ok hfirst hok
  obtain ⟨-, i₂, -, hstart₂, harena₂, rfl⟩ := exec_swzin_ok hsecond hok'
  obtain ⟨hshort, rfl⟩ := eq_of_swzinStart_cursorAfter hlegal.width hlegal.right hlegal.bottom (swzinRoom_add_le hi.le)
    hstart₂
  obtain ⟨hbytes, hconsumed⟩ := bytes_of_room hshort
  obtain ⟨-, -, -, rfl⟩ := Result.transfer.inj hresult
  have hroom := swzinRoom_take_append (src₂ := src₂) hshort hconsumed hbytes
  obtain ⟨hlin₁, hlin₂⟩ := lin_take_append (elementWidth_trbpp f) hconsumed hbytes src₂
  refine ⟨_, (exec_swzin_of_start hlegal hstart).trans (swzinFrom_of_inArena hlegal.width ?_), rfl, ?_, ?_⟩
  · rw [hroom]
    exact harena₁.add harena₂
  · rw [hroom]
    exact swzinMem_add f d i s.mem hlin₁ fun j _ => hlin₂ j
  · rw [hroom]
    exact congrArg (walkCursor d) (Nat.add_assoc ..).symm

end Sys2Proof.Machine
end

section
/-! `UNSWZ` (43_swizzle_engine.md R295, R296): its state after, the rows it returns, and the stream it gives back after a
`SWZIN` of the same rectangle (R297). -/

namespace Sys2Proof.Machine

/-! ### The rows -/

section
variable {s : State} {f : Format} {r : Rect} {bp : BasePtr} {bw : BufWidth} {mode : BitVec 2} {alphad : Desc} {e : Nat}

theorem length_unswzRows : (unswzRows s f r bp bw mode alphad e).length = r.bottom - r.top := by
  rw [unswzRows, List.length_map, Rect.tabulate_length]

/-- A row of the result is the packed row of values (43_swizzle_engine.md R295). -/
theorem getD_unswzRows {j : Nat} (hj : j < r.bottom - r.top) :
    (unswzRows s f r bp bw mode alphad e).getD j [] =
      packRow e ((List.range (r.right - r.left)).map fun i => unswzValue s f bp bw mode alphad (r.left + i) (r.top + j)) := by
  simp [unswzRows, Rect.tabulate, List.range'_eq_map_range, hj, Function.comp_def]

/-- The modes and their element widths, case by case (43_swizzle_engine.md R296). -/
theorem modeWidth_eq_some_iff :
    modeWidth f mode = some e ↔
      mode = 0 ∧ e = (fmt f).trbpp ∨ mode = 1 ∧ e = 32 ∨ mode = 2 ∧ (fmt f).pal ≠ 0 ∧ e = 8 := by
  have hmode : mode = 0 ∨ mode = 1 ∨ mode = 2 ∨ mode = 3 := by
    revert mode
    decide
  rcases hmode with rfl | rfl | rfl | rfl <;> simp [modeWidth_eq, @eq_comm _ e]

theorem elementWidth_of_modeWidth (hmode : modeWidth f mode = some e) : ElementWidth e := by
  rcases modeWidth_eq_some_iff.1 hmode with ⟨-, rfl⟩ | ⟨-, rfl⟩ | ⟨-, -, rfl⟩
  · exact elementWidth_trbpp f
  · simp [ElementWidth]
  · simp [ElementWidth]

/-- A palette's index has at most 8 bits (10_state.md R26). -/
theorem rawBits_le_of_pal (hpal : (fmt f).pal ≠ 0) : rawBits f ≤ 8 := by
  revert hpal
  cases f <;> decide

/-- A value fits its mode's element (43_swizzle_engine.md R296). -/
theorem unswzValue_toNat_lt (hmode : modeWidth f mode = some e) (x y : Nat) :
    (unswzValue s f bp bw mode alphad x y).toNat < 2 ^ e := by
  have hraw : (readPixel s.mem f x y bp.toNat bw.toNat).toNat < 2 ^ rawBits f := readPixel_toNat_lt ..
  rcases modeWidth_eq_some_iff.1 hmode with ⟨rfl, rfl⟩ | ⟨rfl, rfl⟩ | ⟨rfl, hpal, rfl⟩
  · exact hraw.trans_eq (by rw [trbpp_eq_rawBits])
  · exact BitVec.isLt _
  · exact hraw.trans_le (Nat.pow_le_pow_right (by decide) (rawBits_le_of_pal hpal))

/-- An element of a row is the pixel's value (43_swizzle_engine.md R295, R296). -/
theorem lin_unswzRows (hmode : modeWidth f mode = some e) {i j : Nat} (hj : j < r.bottom - r.top)
    (hi : i < r.right - r.left) :
    lin ((unswzRows s f r bp bw mode alphad e).getD j []) e i =
      unswzValue s f bp bw mode alphad (r.left + i) (r.top + j) := by
  rw [getD_unswzRows hj]
  exact lin_packRow (elementWidth_of_modeWidth hmode) (by simp [hi]) (unswzValue_toNat_lt hmode ..)

/-- What the last byte of a row holds past the last value is zero (43_swizzle_engine.md R295). -/
theorem lin_unswzRows_past (he : ElementWidth e) {i j : Nat} (hj : j < r.bottom - r.top) (hi : r.right - r.left ≤ i) :
    lin ((unswzRows s f r bp bw mode alphad e).getD j []) e i = 0 := by
  rw [getD_unswzRows hj]
  exact lin_packRow he (List.getD_eq_default _ _ (by simpa using hi)) (Nat.two_pow_pos e)

theorem length_of_mem_unswzRows (he : ElementWidth e) :
    ∀ row ∈ unswzRows s f r bp bw mode alphad e, row.length = ((r.right - r.left) * e + 7) / 8 := by
  intro row hrow
  obtain ⟨vs, hvs, rfl⟩ := List.mem_map.1 hrow
  rw [length_packRow he, Rect.tabulate_row_length vs hvs]

theorem length_getD_unswzRows (he : ElementWidth e) {j : Nat} (hj : j < r.bottom - r.top) :
    ((unswzRows s f r bp bw mode alphad e).getD j []).length = ((r.right - r.left) * e + 7) / 8 := by
  rw [List.getD_eq_getElem _ _ (hj.trans_eq length_unswzRows.symm)]
  exact length_of_mem_unswzRows he _ (List.getElem_mem _)

/-- `UNSWZ` of a rectangle whose checks pass (43_swizzle_engine.md R295). -/
theorem exec_unswz_next {rect : RectArg} {pitch : Word32} (hrect : rectOf rect = r) (hx : r.left < r.right)
    (hy : r.top < r.bottom) (hright : r.right ≤ 2048) (hbottom : r.bottom ≤ 2048) (hbw : bw ≠ 0)
    (hmode : modeWidth f mode = some e) (hpitch : ((r.right - r.left) * e + 7) / 8 ≤ pitch.toNat)
    (hin : ∀ x y, r.left ≤ x → x < r.right → r.top ≤ y → y < r.bottom → blockAddr f x y bp.toNat bw.toNat < 16384) :
    exec (.unswzOf f rect bp bw mode alphad pitch) s =
      .next (s.succeeded (.rows pitch.toNat (unswzRows s f r bp bw mode alphad e))) := by
  have hchecks : firstFailure (unswzChecks r bw) = none := by
    rw [unswzChecks, firstFailure_rectChecks, firstFailure_cons, firstFailure_nil, decide_eq_false hbw, if_neg (by omega),
      if_neg (by omega), if_neg (by omega)]
    rfl
  have hwide : ¬pitch.toNat < ceilDiv ((r.right - r.left) * e) 8 := Nat.not_lt.2 hpitch
  have hall : r.pixels.all (inArena f bp.toNat bw.toNat) = true := by
    rw [List.all_eq_true]
    intro p hp
    obtain ⟨hx0, hx1, hy0, hy1⟩ := (Rect.has_iff ..).1 ((Rect.mem_pixels ..).1 hp)
    exact (inArena_iff_blockAddr ..).2 (hin p.1 p.2 hx0 hx1 hy0 hy1)
  rw [exec_unswzOf, unswz, hrect, State.check_eq_go hchecks, hmode]
  exact State.check_eq_go (by rw [firstFailure_cons, decide_eq_false hwide, hall]; rfl)

end

/-! ### The round trip (43_swizzle_engine.md R297) -/

/-- Rows of whole bytes whose elements are those of a stream, in order, are the stream. -/
theorem flatten_eq_of_lin_eq {rows : List (List Byte)} {src : List Byte} {e w h : Nat} (he : ElementWidth e)
    (hw : 0 < w) (hwhole : w * e % 8 = 0) (hrows : rows.length = h) (hlen : ∀ row ∈ rows, row.length = (w * e + 7) / 8)
    (hsrc : src.length = (w * h * e + 7) / 8)
    (hlin : ∀ j < h, ∀ i < w, lin (rows.getD j []) e i = lin src e (j * w + i)) : rows.flatten = src := by
  obtain ⟨len, hbytes⟩ : 8 ∣ w * e := Nat.dvd_of_mod_eq_zero hwhole
  have hpos : 0 < w * e := Nat.mul_pos hw he.pos
  have harea : w * h * e = 8 * (h * len) := by rw [Nat.mul_right_comm, hbytes, Nat.mul_assoc, Nat.mul_comm len]
  replace hlen : ∀ row ∈ rows, row.length = len := fun row hrow => (hlen row hrow).trans (by omega)
  replace hsrc : src.length = h * len := by omega
  have hflat : rows.flatten.length = h * len := by
    rw [List.length_flatten, List.map_congr_left hlen, List.map_const', List.sum_replicate, hrows, smul_eq_mul]
  refine eq_of_streamBit_eq (hflat.trans hsrc.symm) fun n hn => ?_
  rw [hflat, Nat.mul_left_comm, ← hbytes] at hn
  rw [streamBit_flatten hlen (by omega), ← hbytes, streamBit_eq_getLsbD_lin he, streamBit_eq_getLsbD_lin he src]
  have hj : n / (w * e) < h := Nat.div_lt_of_lt_mul (by rwa [Nat.mul_comm])
  have hi : n % (w * e) / e < w := (Nat.div_lt_iff_lt_mul he.pos).2 (Nat.mod_lt _ hpos)
  have hsplit : n / (w * e) * w + n % (w * e) / e = n / e := by
    rw [Nat.mod_mul_left_div_self, Nat.mul_comm w, ← Nat.div_div_eq_div_mul, Nat.div_add_mod']
  rw [hlin _ hj _ hi, hsplit, Nat.mod_mul_left_mod]

/-- A `SWZIN` of a whole rectangle within the buffer's width: its pixels lie in the arena and hold the stream's elements. -/
theorem swzin_whole_rectangle {f : Format} {d : Xferd} {src : List Byte} {s t : State}
    (hswzin : exec (.swzinOf f d false src) s = .next t) (hok : t.status = 0)
    (hlen : src.length = ((destWalk d).w * (destWalk d).h * (fmt f).trbpp + 7) / 8)
    (hwidth : (destWalk d).x0 + (destWalk d).w ≤ pagesPerRow f (xferDbw d).toNat * (fmt f).pw) :
    SwzinLegal f d ∧
      (∀ x y, (destWalk d).x0 ≤ x → x < (destWalk d).x0 + (destWalk d).w → (destWalk d).y0 ≤ y →
        y < (destWalk d).y0 + (destWalk d).h → blockAddr f x y (xferDbp d).toNat (xferDbw d).toNat < 16384) ∧
      ∀ j < (destWalk d).h, ∀ i < (destWalk d).w,
        readPixel t.mem f ((destWalk d).x0 + i) ((destWalk d).y0 + j) (xferDbp d).toNat (xferDbw d).toNat =
          lin src (fmt f).trbpp (j * (destWalk d).w + i) := by
  obtain ⟨hlegal, i, -, hstart, harena, rfl⟩ := exec_swzin_ok hswzin hok
  obtain rfl : i = 0 := by
    rcases swzinStart_eq_some_iff.1 hstart with ⟨-, hpos⟩ | ⟨hcontra, -⟩
    · exact Walk.pos_inj (hpos.trans (Walk.pos_zero _).symm)
    · contradiction
  have hroom : swzinRoom f d src 0 = (destWalk d).w * (destWalk d).h :=
    Nat.min_eq_left ((Nat.le_div_iff_mul_le (elementWidth_trbpp f).pos).2 (by rw [Nat.sub_zero]; omega))
  rw [hroom] at harena
  refine ⟨hlegal, fun x y hx0 hx hy0 hy => ?_, fun j hj i hi => ?_⟩
  · have hin : (destWalk d).inside (x, y) = true := Walk.inside_iff.2 ⟨hx0, hx, hy0, hy⟩
    have hunit := harena _ (Walk.index_lt hin)
    rw [Nat.zero_add, Walk.pos_index hin] at hunit
    exact (inArena_iff_blockAddr ..).1 hunit
  · obtain ⟨hmod, hdiv⟩ := mod_div_of_cell hi j
    have hpixel := readPixel_swzinMem (src := src) (m := s.mem) hwidth (Nat.le_of_eq (Nat.zero_add _)) _
      (cell_lt_area hi hj)
    rw [Nat.zero_add, Walk.pos, hmod, hdiv] at hpixel
    rw [hroom]
    exact hpixel

/-! ### The statements -/

/-- Settles O29: the checks pass, and each row is the packed row of its values. -/
theorem unswzReturnsTheRows : Obligations.UnswzReturnsTheRows := by
  intro f rect bp bw mode alphad pitch s e l t r b rowbytes hx hy hright hbottom hbw he hpitch hin
  have hmode : modeWidth f mode = some e := modeWidth_eq_some_iff.2 he
  have hwidth := elementWidth_of_modeWidth hmode
  refine ⟨_, exec_unswz_next rfl hx hy hright hbottom hbw hmode hpitch hin, length_unswzRows, fun j hj =>
    ⟨length_getD_unswzRows hwidth hj, fun i hi => lin_unswzRows hmode hj hi, ?_⟩⟩
  rintro rfl -
  exact lin_unswzRows_past hwidth hj le_rfl

/-- Settles O31: the pixels of the rectangle hold the elements of the stream, and `UNSWZ` reads them row by row. -/
theorem swzinThenUnswzIsTheStream : Obligations.SwzinThenUnswzIsTheStream := by
  intro f d src alphad pitch s t x0 y0 w h bits rect hswzin hok hlen hwidth hpitch
  obtain ⟨hlegal, hin, hread⟩ := swzin_whole_rectangle hswzin hok hlen hwidth
  have hright : x0 + w ≤ 2048 := hlegal.right
  have hbottom : y0 + h ≤ 2048 := hlegal.bottom
  have hw : 0 < w := hlegal.width
  have hh : 0 < h := hlegal.height
  have he : ElementWidth bits := elementWidth_trbpp f
  have hmode : modeWidth f 0 = some bits := rfl
  have htoNat {n : Nat} (hn : n ≤ 2048) : (BitVec.ofNat 12 n).toNat = n :=
    (BitVec.toNat_ofNat ..).trans (Nat.mod_eq_of_lt (by omega))
  have hrect : rectOf rect = ⟨x0, y0, x0 + w, y0 + h⟩ := by
    simp only [rectOf, rect]
    rw [htoNat (by omega), htoNat (by omega), htoNat hright, htoNat hbottom]
  have hcols : x0 + w - x0 = w := Nat.add_sub_cancel_left ..
  have hrows : y0 + h - y0 = h := Nat.add_sub_cancel_left ..
  have hlin : ∀ j < h, ∀ i < w, lin ((unswzRows t f ⟨x0, y0, x0 + w, y0 + h⟩ (xferDbp d) (xferDbw d) 0 alphad bits).getD j [])
      bits i = lin src bits (j * w + i) := fun j hj i hi =>
    (lin_unswzRows hmode (hj.trans_eq hrows.symm) (hi.trans_eq hcols.symm)).trans (hread j hj i hi)
  refine ⟨_, exec_unswz_next hrect ?_ ?_ hright hbottom hlegal.bw hmode ?_ hin, hlin, fun hwhole => ?_⟩
  · exact Nat.lt_add_of_pos_right hw
  · exact Nat.lt_add_of_pos_right hh
  · rwa [hcols]
  · refine flatten_eq_of_lin_eq he hw hwhole (length_unswzRows.trans hrows) (fun row hrow => ?_) hlen hlin
    rw [length_of_mem_unswzRows he row hrow, hcols]

end Sys2Proof.Machine
end

section
/-! `XFERMM` (43_swizzle_engine.md R328): its state after, by the index of the pixel copied in raster order. -/

namespace Sys2Proof.Machine

/-- The offset of index `k` of a transfer, counted in raster order. -/
def xferOffset (d : Xferd) (k : Nat) : Nat × Nat := (k % (xferRrw d).toNat, k / (xferRrw d).toNat)

theorem xferOffsets_eq_map_range (d : Xferd) :
    xferOffsets d = (List.range ((xferRrw d).toNat * (xferRrh d).toNat)).map (xferOffset d) := by
  rw [xferOffsets, Rect.pixels_eq_map_range]
  simp only [Nat.sub_zero, Nat.zero_add]
  rfl

theorem forall_mem_xferOffsets {d : Xferd} {P : Nat × Nat → Prop} :
    (∀ o ∈ xferOffsets d, P o) ↔ ∀ k < (xferRrw d).toNat * (xferRrh d).toNat, P (xferOffset d k) := by
  rw [xferOffsets_eq_map_range, List.forall_mem_map]
  simp only [List.mem_range]

/-- What the checks of `XFERMM` ask before its pixels are looked at (30_encoding.md R105, 43_swizzle_engine.md R328). -/
structure XfermmLegal (f g : Format) (d : Xferd) : Prop where
  width : (xferRrw d).toNat ≠ 0
  height : (xferRrh d).toNat ≠ 0
  xdir : xferXdir d = 2
  dir : xferDir d = 0
  source : formatOf (xferSpsm d) = some f
  dest : formatOf (xferDpsm d) = some g
  sourceRight : (xferSsax d).toNat + (xferRrw d).toNat ≤ 2048
  sourceBottom : (xferSsay d).toNat + (xferRrh d).toNat ≤ 2048
  destRight : (xferDsax d).toNat + (xferRrw d).toNat ≤ 2048
  destBottom : (xferDsay d).toNat + (xferRrh d).toNat ≤ 2048
  sourceBw : xferSbw d ≠ 0
  destBw : xferDbw d ≠ 0
  elements : (fmt f).trbpp = (fmt g).trbpp

/-- Both units of the pixel of index `k` lie in the arena. -/
def CopyInArena (f g : Format) (d : Xferd) (k : Nat) : Prop :=
  inArena f (xferSbp d).toNat (xferSbw d).toNat (xferSource d (xferOffset d k)) = true ∧
    inArena g (xferDbp d).toNat (xferDbw d).toNat (xferDest d (xferOffset d k)) = true

section
variable {f g : Format} {d : Xferd} {s : State}

theorem XfermmLegal.firstChecks (h : XfermmLegal f g d) : firstFailure (xferChecks d 2) = none := by
  rw [firstFailure_xferChecks, if_neg (not_or.2 ⟨h.width, h.height⟩), if_neg (by simp [h.xdir, h.dir])]

/-- Of a legal descriptor the arena alone is left to check. -/
theorem XfermmLegal.lastChecks (h : XfermmLegal f g d) :
    firstFailure (xfermmChecks f g d) =
      if ∀ o ∈ xferOffsets d, inArena f (xferSbp d).toNat (xferSbw d).toNat (xferSource d o) = true ∧
        inArena g (xferDbp d).toNat (xferDbw d).toNat (xferDest d o) = true then none
      else some .oob := by
  have hbound : ¬(xferPasses d (xferSsax d) (xferSsay d) = true ∨ xferPasses d (xferDsax d) (xferDsay d) = true) := by
    rw [xferPasses_iff, xferPasses_iff]
    exact not_or.2 ⟨not_or.2 ⟨Nat.not_lt.2 h.sourceRight, Nat.not_lt.2 h.sourceBottom⟩,
      not_or.2 ⟨Nat.not_lt.2 h.destRight, Nat.not_lt.2 h.destBottom⟩⟩
  rw [firstFailure_xfermmChecks, if_neg hbound, if_neg (not_or.2 ⟨h.sourceBw, h.destBw⟩), if_neg (not_not.2 h.elements)]

theorem execXfermm_of_inArena (h : XfermmLegal f g d)
    (hin : ∀ k < (xferRrw d).toNat * (xferRrh d).toNat, CopyInArena f g d k) :
    execXfermm d s =
      .next (State.succeeded { s with mem := (xferOffsets d).foldl (copyPixel f g d) s.mem } .none) := by
  unfold execXfermm
  rw [State.check_eq_go h.firstChecks, h.source, h.dest]
  exact State.check_eq_go (h.lastChecks.trans (if_pos (forall_mem_xferOffsets.2 hin)))

theorem execXfermm_oob (h : XfermmLegal f g d) {k : Nat} (hk : k < (xferRrw d).toNat * (xferRrh d).toNat)
    (hout : ¬CopyInArena f g d k) : execXfermm d s = .next (s.failed (.cv .oob)) :=
  execXfermm_fails .oob h.firstChecks h.source h.dest
    (h.lastChecks.trans (if_neg fun hin => hout (forall_mem_xferOffsets.1 hin k hk)))

end

/-- Settles O32: the checks leave the arena to decide, and the offsets are counted in raster order. -/
theorem xfermmCopiesPixelByPixel : Obligations.XfermmCopiesPixelByPixel := by
  intro d s f g w h src dst sbp sbw dbp dbw unit mem' hw hh hxdir hdir hf hg hsx hsy hdx hdy hsbw hdbw helements
  have hlegal : XfermmLegal f g d := ⟨hw, hh, hxdir, hdir, hf, hg, hsx, hsy, hdx, hdy, hsbw, hdbw, helements⟩
  have harena (k : Nat) : CopyInArena f g d k ↔
      blockAddr f (src k).1 (src k).2 sbp sbw < 16384 ∧ blockAddr g (dst k).1 (dst k).2 dbp dbw < 16384 :=
    and_congr (inArena_iff_blockAddr ..) (inArena_iff_blockAddr ..)
  have hmem : (xferOffsets d).foldl (copyPixel f g d) s.mem = mem' := by
    rw [xferOffsets_eq_map_range, List.foldl_map]
    rfl
  refine ⟨fun hin => ⟨?_, fun b hb => ?_⟩, fun ⟨k, hk, hout⟩ => execXfermm_oob hlegal hk fun hin => ?_⟩
  · rw [← hmem]
    exact execXfermm_of_inArena hlegal fun k hk => (harena k).2 (hin k hk)
  · rw [← hmem, xferOffsets_eq_map_range]
    refine read_copyPixels_of_outside _ _ fun o ho => ?_
    obtain ⟨k, hk, rfl⟩ := List.mem_map.1 ho
    exact hb k (List.mem_range.1 hk)
  · obtain ⟨hsrc, hdst⟩ := (harena k).1 hin
    omega

end Sys2Proof.Machine
end

section
/-! The texture cache as a list: the entry an operation finds, what it puts in its place, and what goes for room
(44_texture_cache.md R332, R334, R361). -/

namespace Sys2Proof.Machine

theorem isTarget_iff {bp : BasePtr} {f : Format} {e : Entry} :
    isTarget bp f e = true ↔ e.isRt = true ∧ e.key.bp = bp ∧ e.key.psm = f := by
  simp [isTarget, and_assoc]

theorem isTexture_iff {k : Key} {e : Entry} : isTexture k e = true ↔ e.isRt = false ∧ e.key = k := by
  simp [isTexture]

theorem Entry.isRt_of_bitmap {e : Entry} {rows : Pixels} (h : e.content = .bitmap rows) : e.isRt = false := by
  simp only [Entry.isRt, h]

theorem Entry.isRt_of_surface {e : Entry} {n : Nat} (h : e.content = .surface n) : e.isRt = true := by
  simp only [Entry.isRt, h]

section
variable {p : Entry → Bool} {tc l r : List Entry} {e : Entry}

theorem find_first (hl : ∀ x ∈ l, ¬p x = true) (he : p e = true) : (l ++ e :: r).find? p = some e :=
  List.find?_eq_some_iff_append.2 ⟨he, l, r, rfl, fun x hx => by simpa using hl x hx⟩

theorem updateFirst_first (g : Entry → Entry) (hl : ∀ x ∈ l, ¬p x = true) (he : p e = true) :
    updateFirst p g (l ++ e :: r) = l ++ g e :: r := by
  induction l with
  | nil => exact if_pos he
  | cons x l ih =>
    obtain ⟨hx, hl⟩ := List.forall_mem_cons.1 hl
    exact (if_neg hx).trans (congrArg (x :: ·) (ih hl))

/-- The entry of greatest age, the earliest among equals, is the one that goes. -/
theorem removeOldest_first (he : p e = true) (hmax : ∀ x ∈ l ++ e :: r, p x = true → x.age ≤ e.age)
    (hl : ∀ x ∈ l, p x = true → x.age < e.age) : removeOldest p (l ++ e :: r) = some (l ++ r) := by
  have hage : (((l ++ e :: r).filter p).map Entry.age).max? = some e.age := by
    refine List.max?_eq_some_iff.2 ⟨List.mem_map.2 ⟨e, by simp [he], rfl⟩, fun a ha => ?_⟩
    obtain ⟨x, hx, rfl⟩ := List.mem_map.1 ha
    obtain ⟨hx, hp⟩ := List.mem_filter.1 hx
    exact hmax x hx hp
  have herase : (l ++ e :: r).eraseP (fun x => p x && x.age == e.age) = l ++ r := by
    rw [List.eraseP_append_right _ fun x hx hpx => ?_, List.eraseP_cons_of_pos (by simp [he])]
    obtain ⟨hp, hxage⟩ := Bool.and_eq_true_iff.1 hpx
    exact (hl x hx hp).ne (beq_iff_eq.1 hxage)
  rw [removeOldest, hage, Option.map_some, herase]

theorem makeRoom_of_room (h : tc.length ≠ Config.maxEntries) : makeRoom tc = some tc := if_neg h

/-- In a full cache the oldest texture goes (44_texture_cache.md R361). -/
theorem makeRoom_of_full (hfull : tc.length = Config.maxEntries) (htc : tc = l ++ e :: r) (he : e.isRt = false)
    (hmax : ∀ x ∈ tc, x.isRt = false → x.age ≤ e.age) (hl : ∀ x ∈ l, x.isRt = false → x.age < e.age) :
    makeRoom tc = some (l ++ r) := by
  rw [makeRoom, if_pos hfull]
  subst htc
  exact removeOldest_first (by simp [he]) (fun x hx hp => hmax x hx (by simpa using hp))
    fun x hx hp => hl x hx (by simpa using hp)

end

theorem find_isTarget_eq_none {bp : BasePtr} {f : Format} {tc : List Entry} :
    tc.find? (isTarget bp f) = none ↔ ∀ e ∈ tc, ¬(e.isRt = true ∧ e.key.bp = bp ∧ e.key.psm = f) := by
  simp only [List.find?_eq_none, isTarget_iff]

theorem find_isTexture_eq_none {k : Key} {tc : List Entry} :
    tc.find? (isTexture k) = none ↔ ∀ e ∈ tc, ¬(e.isRt = false ∧ e.key = k) := by
  simp only [List.find?_eq_none, isTexture_iff]

end Sys2Proof.Machine
end

section
/-! How `TCFETCH`, `TCALIAS`, `TCRT` and `TCDROP` end (44_texture_cache.md R334, R348, R350, R358): the checks of their
descriptors, and the path that a cache makes them take. -/

namespace Sys2Proof.Machine

/-- The buffer width, then the dimensions (30_encoding.md R101). -/
theorem firstFailure_texdChecks (texd : Desc) :
    firstFailure (texdChecks texd) =
      if Texd.tbw texd = 0 then some .badBw
      else if 10 < (Texd.tw texd).toNat ∨ 10 < (Texd.th texd).toNat then some .badDim
      else none := by
  simp only [texdChecks, firstFailure_cons, firstFailure_nil, Bool.or_eq_true, decide_eq_true_eq]
  rfl

section
variable {texd alphad clampd key : Desc} {f g : Format} {handle : Nat} {isRt : Bool} {s : State} {c : Cause}
  {e : Entry}

/-- The fields of a texture descriptor that every operation on one checks. -/
structure TexdLegal (f : Format) (texd : Desc) : Prop where
  format : formatOf (Texd.psm texd) = some f
  width : Texd.tbw texd ≠ 0
  tw : (Texd.tw texd).toNat ≤ 10
  th : (Texd.th texd).toNat ≤ 10

theorem TexdLegal.checks (h : TexdLegal f texd) : firstFailure (texdChecks texd) = none := by
  rw [firstFailure_texdChecks, if_neg h.width, if_neg (not_or.2 ⟨Nat.not_lt.2 h.tw, Nat.not_lt.2 h.th⟩)]

/-- A texture request that is not self-contradictory (44_texture_cache.md R335). -/
structure FetchLegal (f : Format) (texd : Desc) : Prop extends TexdLegal f texd where
  palette : (fmt f).pal ≠ 0 → Texd.cpsm texd ∈ ([0x0, 0x2, 0xA] : List (BitVec 4))

theorem selfContradictory_iff :
    selfContradictory f texd = true ↔ (fmt f).pal ≠ 0 ∧ Texd.cpsm texd ∉ ([0x0, 0x2, 0xA] : List (BitVec 4)) := by
  rw [selfContradictory, Bool.and_eq_true, decide_eq_true_eq, decide_eq_true_eq, cpsmFormat_eq_none_iff]

theorem FetchLegal.not_selfContradictory (h : FetchLegal f texd) : ¬selfContradictory f texd = true :=
  fun hc => (selfContradictory_iff.1 hc).2 (h.palette (selfContradictory_iff.1 hc).1)

/-! ### `TCFETCH` -/

theorem execTcfetch_badPsm (hf : formatOf (Texd.psm texd) = none) :
    execTcfetch texd alphad clampd s = .next (s.failed (.cv .badPsm)) := by
  unfold execTcfetch
  rw [hf]
  rfl

theorem execTcfetch_fails (hf : formatOf (Texd.psm texd) = some f) (hc : firstFailure (texdChecks texd) = some c) :
    execTcfetch texd alphad clampd s = .next (s.failed (.cv c)) := by
  unfold execTcfetch
  rw [hf]
  exact State.check_fail hc

theorem execTcfetch_refused (h : TexdLegal f texd) (hpal : selfContradictory f texd = true) :
    execTcfetch texd alphad clampd s = .next (s.failed .refused) := by
  unfold execTcfetch
  rw [h.format]
  exact (State.check_eq_go h.checks).trans (if_pos hpal)

theorem execTcfetch_target (h : FetchLegal f texd) (he : s.tc.find? (isTarget (Texd.tbp0 texd) f) = some e) :
    execTcfetch texd alphad clampd s = fetchTarget s e f texd := by
  unfold execTcfetch
  rw [h.format]
  refine (State.check_eq_go h.checks).trans ((if_neg h.not_selfContradictory).trans ?_)
  rw [he]

theorem execTcfetch_hit (h : FetchLegal f texd) (ht : s.tc.find? (isTarget (Texd.tbp0 texd) f) = none)
    (he : s.tc.find? (isTexture (fetchKey f texd alphad clampd s.clut32)) = some e) :
    execTcfetch texd alphad clampd s = fetchHit s e f texd alphad clampd := by
  unfold execTcfetch
  rw [h.format]
  refine (State.check_eq_go h.checks).trans ((if_neg h.not_selfContradictory).trans ?_)
  rw [ht]
  dsimp only
  rw [he]

theorem execTcfetch_miss (h : FetchLegal f texd) (ht : s.tc.find? (isTarget (Texd.tbp0 texd) f) = none)
    (he : s.tc.find? (isTexture (fetchKey f texd alphad clampd s.clut32)) = none) :
    execTcfetch texd alphad clampd s = fetchMiss s (fetchKey f texd alphad clampd s.clut32) f texd alphad clampd := by
  unfold execTcfetch
  rw [h.format]
  refine (State.check_eq_go h.checks).trans ((if_neg h.not_selfContradictory).trans ?_)
  rw [ht]
  dsimp only
  rw [he]

/-- `TCFETCH` ends with a failed check, a refusal, or down one of its three paths. -/
theorem execTcfetch_cases {t : State} (hf : formatOf (Texd.psm texd) = some f)
    (h : execTcfetch texd alphad clampd s = .next t) :
    (∃ c, t = s.failed (.cv c)) ∨ (selfContradictory f texd = true ∧ t = s.failed .refused) ∨
      FetchLegal f texd := by
  unfold execTcfetch at h
  rw [hf] at h
  rcases State.check_cases h with ⟨c, -, hc⟩ | ⟨hpass, hgo⟩
  · exact .inl ⟨c, Host.Outcome.next.inj hc⟩
  · by_cases hpal : selfContradictory f texd = true
    · rw [if_pos hpal] at hgo
      exact .inr (.inl ⟨hpal, Host.Outcome.next.inj hgo⟩)
    · obtain ⟨hbw, htw, hth⟩ := texdChecks_pass.1 hpass
      refine .inr (.inr ⟨⟨hf, hbw, htw, hth⟩, fun hp => ?_⟩)
      exact not_not.1 fun hmem => hpal (selfContradictory_iff.2 ⟨hp, hmem⟩)

/-! ### `TCALIAS` -/

theorem execTcalias_badPsm (keyClampd : Desc) (h : formatOf (Texd.psm key) = none ∨ formatOf (Texd.psm texd) = none) :
    execTcalias key keyClampd texd s = .next (s.failed (.cv .badPsm)) := by
  unfold execTcalias
  split
  · simp_all
  · rfl

theorem execTcalias_fails (keyClampd : Desc) (hf : formatOf (Texd.psm key) = some f)
    (hg : formatOf (Texd.psm texd) = some g) (hc : firstFailure (texdChecks texd) = some c) :
    execTcalias key keyClampd texd s = .next (s.failed (.cv c)) := by
  unfold execTcalias
  rw [hf, hg]
  exact State.check_fail hc

theorem execTcalias_noEntry (keyClampd : Desc) (hf : formatOf (Texd.psm key) = some f) (h : TexdLegal g texd)
    (he : s.tc.find? (isTarget (Texd.tbp0 key) f) = none) :
    execTcalias key keyClampd texd s = .next (s.failed (.cv .noEntry)) := by
  unfold execTcalias
  rw [hf, h.format]
  refine (State.check_eq_go h.checks).trans ?_
  rw [he]
  rfl

/-- The state and the answer for the target `e` (44_texture_cache.md R350). -/
theorem execTcalias_found (keyClampd : Desc) (hf : formatOf (Texd.psm key) = some f) (h : TexdLegal g texd)
    (he : s.tc.find? (isTarget (Texd.tbp0 key) f) = some e) :
    execTcalias key keyClampd texd s = .next (State.succeeded
      { s with
        tc := updateFirst (isTarget (Texd.tbp0 key) f)
          (fun e' => { e' with age := 0, subs := (resolveAlias s e texd).subs }) s.tc
        surf := (resolveAlias s e texd).surf
        free := (resolveAlias s e texd).free } (.surface (resolveAlias s e texd).handle)) := by
  unfold execTcalias
  rw [hf, h.format]
  refine (State.check_eq_go h.checks).trans ?_
  rw [he]
  rfl

/-! ### `TCRT` and `TCDROP` -/

theorem execTcrt_badPsm (hf : formatOf (Texd.psm texd) = none) :
    execTcrt texd handle s = .next (s.failed (.cv .badPsm)) := by
  unfold execTcrt
  rw [hf]
  rfl

theorem execTcrt_fails (hf : formatOf (Texd.psm texd) = some f) (hc : firstFailure (texdChecks texd) = some c) :
    execTcrt texd handle s = .next (s.failed (.cv c)) := by
  unfold execTcrt
  rw [hf]
  exact State.check_fail hc

theorem execTcrt_replaces (h : TexdLegal f texd) (he : s.tc.any (isTarget (Texd.tbp0 texd) f) = true) :
    execTcrt texd handle s = .next (State.succeeded
      { s with tc := updateFirst (isTarget (Texd.tbp0 texd) f) (fun _ => newTarget f texd handle) s.tc } .none) := by
  unfold execTcrt
  rw [h.format]
  exact (State.check_eq_go h.checks).trans (if_pos he)

theorem execTcrt_appends {room : List Entry} (h : TexdLegal f texd)
    (he : ¬s.tc.any (isTarget (Texd.tbp0 texd) f) = true) (hroom : makeRoom s.tc = some room) :
    execTcrt texd handle s =
      .next (State.succeeded { s with tc := room ++ [newTarget f texd handle] } .none) := by
  unfold execTcrt
  rw [h.format]
  refine (State.check_eq_go h.checks).trans ((if_neg he).trans ?_)
  rw [hroom]
  rfl

theorem execTcdrop_badPsm (keyClampd : Desc) (hf : formatOf (Texd.psm key) = none) :
    execTcdrop key keyClampd isRt s = .next (s.failed (.cv .badPsm)) := by
  unfold execTcdrop
  rw [hf]
  rfl

theorem execTcdrop_legal (keyClampd : Desc) (hf : formatOf (Texd.psm key) = some f) :
    execTcdrop key keyClampd isRt s =
      .next (State.succeeded { s with tc := s.tc.filter fun e => !dropMatches f key keyClampd isRt e } .none) := by
  unfold execTcdrop
  rw [hf]
  rfl

end

/-! ### The statements about checks and removal -/

/-- Settles O33: the format comes first, then the checks of the descriptor, and then the target is looked for. -/
theorem cacheOperandChecks : Obligations.CacheOperandChecks := by
  intro texd alphad clampd key keyClampd handle isRt s fails fetch rt target legal keyLegal tooBig
  refine ⟨fun hf => ?_, fun hkey => ?_, fun hf hbw => ?_, fun hf hbw hbig => ?_, fun hf hkey hbw hbig hno => ?_⟩
  · replace hf := not_not.1 hf
    exact ⟨execTcfetch_badPsm hf, execTcrt_badPsm hf, execTcalias_badPsm keyClampd (.inr hf)⟩
  · replace hkey := not_not.1 hkey
    exact ⟨execTcalias_badPsm keyClampd (.inl hkey), execTcdrop_badPsm keyClampd hkey⟩
  all_goals obtain ⟨f, hf⟩ := Option.ne_none_iff_exists'.1 hf
  · have hc : firstFailure (texdChecks texd) = some .badBw := by rw [firstFailure_texdChecks, if_pos hbw]
    refine ⟨execTcfetch_fails hf hc, execTcrt_fails hf hc, fun hkey => ?_⟩
    obtain ⟨k, hk⟩ := Option.ne_none_iff_exists'.1 hkey
    exact execTcalias_fails keyClampd hk hf hc
  · have hc : firstFailure (texdChecks texd) = some .badDim := by
      rw [firstFailure_texdChecks, if_neg hbw, if_pos hbig]
    refine ⟨execTcfetch_fails hf hc, execTcrt_fails hf hc, fun hkey => ?_⟩
    obtain ⟨k, hk⟩ := Option.ne_none_iff_exists'.1 hkey
    exact execTcalias_fails keyClampd hk hf hc
  · obtain ⟨k, hk⟩ := Option.ne_none_iff_exists'.1 hkey
    obtain ⟨htw, hth⟩ := not_or.1 hbig
    have hnone : s.tc.find? (isTarget (Texd.tbp0 key) k) = none :=
      find_isTarget_eq_none.2 fun e he ⟨hrt, hbp, hpsm⟩ => hno e he ⟨hrt, hbp, by rw [hpsm, hk]⟩
    exact execTcalias_noEntry keyClampd hk ⟨hf, hbw, Nat.not_lt.1 htw, Nat.not_lt.1 hth⟩ hnone

/-- Settles O34: only the refusal has its code. -/
theorem tcfetchRefusesExactlyContradictions : Obligations.TcfetchRefusesExactlyContradictions := by
  intro texd alphad clampd s f hf hbw htw hth
  have hlegal : TexdLegal f texd := ⟨hf, hbw, htw, hth⟩
  refine ⟨fun hpal => execTcfetch_refused hlegal (selfContradictory_iff.2 hpal), fun hpal t ht => ?_⟩
  have hcv (c : Cause) : (Ending.cv c).status ≠ 0x020A := by cases c <;> decide
  rcases execTcfetch_cases hf ht with ⟨c, rfl⟩ | ⟨hself, -⟩ | hfetch
  · exact hcv c
  · exact absurd (selfContradictory_iff.1 hself) hpal
  replace ht : execTcfetch texd alphad clampd s = .next t := ht
  rcases htarget : s.tc.find? (isTarget (Texd.tbp0 texd) f) with _ | e
  · rcases htexture : s.tc.find? (isTexture (fetchKey f texd alphad clampd s.clut32)) with _ | e
    · rw [execTcfetch_miss hfetch htarget htexture] at ht
      rcases fetchMiss_cases ht with ⟨-, rfl⟩ | ⟨-, -, rfl⟩ | ⟨tc, -, -, rfl⟩
      · exact hcv .oob
      · exact (by decide : Ending.exhausted.status ≠ 0x020A)
      · exact (by decide : Ending.ok.status ≠ 0x020A)
    · rw [execTcfetch_hit hfetch htarget htexture] at ht
      rcases fetchHit_cases ht with ⟨-, rfl⟩ | ⟨-, rfl⟩
      · exact hcv .oob
      · exact (by decide : Ending.ok.status ≠ 0x020A)
  · rw [execTcfetch_target hfetch htarget] at ht
    rw [(State.answer_next_iff ..).1 ht]
    exact (by decide : Ending.ok.status ≠ 0x020A)

theorem dropMatches_iff {f : Format} {key keyClampd : Desc} {isRt : Bool} {e : Entry} :
    dropMatches f key keyClampd isRt e = true ↔
      e.isRt = isRt ∧ e.key.bp = Texd.tbp0 key ∧ e.key.psm = f ∧
        (isRt = false → e.key.bw = Texd.tbw key ∧ e.key.tw = Texd.tw key ∧ e.key.th = Texd.th key ∧
          e.key.wms = Clampd.wms keyClampd ∧ e.key.wmt = Clampd.wmt keyClampd) := by
  cases isRt <;> simp [dropMatches, and_assoc]

/-- Settles O45: the entries left are those that do not match. -/
theorem dropAndPurgeRemoveEntries : Obligations.DropAndPurgeRemoveEntries := by
  intro key keyClampd isRt s f hf
  refine ⟨rfl, _, execTcdrop_legal keyClampd hf, List.filter_sublist, fun e he => ?_⟩
  rw [List.mem_filter, Bool.not_eq_true', ← Bool.not_eq_true, dropMatches_iff]
  exact and_iff_right he

/-- Settles O46: the first target that fits is made anew, or the new one goes where there is room. -/
theorem tcrtMakesARenderTarget : Obligations.TcrtMakesARenderTarget := by
  intro texd handle s f target same leaves hf hbw htw hth
  have hlegal : TexdLegal f texd := ⟨hf, hbw, htw, hth⟩
  have hnone (h : ∀ e ∈ s.tc, ¬same e) : ¬s.tc.any (isTarget (Texd.tbp0 texd) f) = true := fun hany => by
    obtain ⟨e, he, hsame⟩ := List.any_eq_true.1 hany
    exact h e he (isTarget_iff.1 hsame)
  refine ⟨fun l e r htc hl he => ?_, fun hno hroom => ?_, fun hno hfull l e r htc he hmax hl => ?_⟩
  · have hany : s.tc.any (isTarget (Texd.tbp0 texd) f) = true :=
      List.any_eq_true.2 ⟨e, by simp [htc], isTarget_iff.2 he⟩
    have hupdate : updateFirst (isTarget (Texd.tbp0 texd) f) (fun _ => newTarget f texd handle) s.tc =
        l ++ target :: r := by
      rw [htc]
      exact updateFirst_first _ (fun x hx hsame => hl x hx (isTarget_iff.1 hsame)) (isTarget_iff.2 he)
    exact hupdate ▸ execTcrt_replaces hlegal hany
  · exact execTcrt_appends hlegal (hnone hno) (makeRoom_of_room hroom)
  · exact execTcrt_appends hlegal (hnone hno) (makeRoom_of_full hfull htc he hmax hl)

end Sys2Proof.Machine
end

section
/-! Shared bits, the record of a write and the dirty query (44_texture_cache.md R340, R342, R344, R345). -/

namespace Sys2Proof.Machine

/-! ### Shared bits -/

theorem rawBits_pos (f : Format) : 0 < rawBits f := by cases f <;> decide

/-- Two footprints overlap when one bit lies in both. -/
theorem footsMeet_iff {f g : Format} {p q : Nat × Nat} {bp bw bp' bw' : Nat} :
    footsMeet f p bp bw g q bp' bw' = true ↔
      ∃ n, (footBit f p.1 p.2 bp bw ≤ n ∧ n < footBit f p.1 p.2 bp bw + rawBits f) ∧
        footBit g q.1 q.2 bp' bw' ≤ n ∧ n < footBit g q.1 q.2 bp' bw' + rawBits g := by
  have hf := rawBits_pos f
  have hg := rawBits_pos g
  rw [footsMeet, Bool.and_eq_true, decide_eq_true_eq, decide_eq_true_eq]
  exact ⟨fun h => ⟨max (footBit f p.1 p.2 bp bw) (footBit g q.1 q.2 bp' bw'), by omega⟩, fun ⟨n, h⟩ => by omega⟩

theorem pixelMeets_self (e : Entry) (q : Nat × Nat) :
    pixelMeets e.key.psm e.key.bp.toNat e.key.bw.toNat e q q = true :=
  footsMeet_iff.2 ⟨_, ⟨le_rfl, Nat.lt_add_of_pos_right (rawBits_pos _)⟩, le_rfl,
    Nat.lt_add_of_pos_right (rawBits_pos _)⟩

section
variable {e : Entry} {bp : BasePtr} {bw : BufWidth} {g : Format} {r : Rect}

theorem shares_iff {wbp wbw : Nat} :
    shares e wbp wbw g r = true ↔
      ∃ q, e.area.has q.1 q.2 = true ∧ ∃ p, r.has p.1 p.2 = true ∧ inArena g wbp wbw p = true ∧
        pixelMeets g wbp wbw e q p = true := by
  simp only [shares, List.any_eq_true, Rect.mem_pixels, Bool.and_eq_true]

theorem mem_dirtySet {q : Nat × Nat} :
    q ∈ dirtySet e ↔ e.area.has q.1 q.2 = true ∧ ∃ d ∈ e.dirty, ∃ p, d.rect.has p.1 p.2 = true ∧
      pixelMeets d.psm e.key.bp.toNat e.key.bw.toNat e q p = true := by
  simp only [dirtySet, List.mem_filter, Rect.mem_pixels, List.any_eq_true]

/-! ### The record of a write -/

theorem markDirty_of_shares (h : shares e bp.toNat bw.toNat g r = true) :
    markDirty bp bw g r e =
      { e with dirty := e.dirty ++ [dirtyRecord e bp bw g r], subs := if e.isRt then [] else e.subs } := if_pos h

theorem markDirty_of_not_shares (h : ¬shares e bp.toNat bw.toNat g r = true) : markDirty bp bw g r e = e := if_neg h

/-- What a reported write leaves of an entry: all but the dirty list and the sub-surfaces. -/
theorem markDirty_keeps (bp : BasePtr) (bw : BufWidth) (g : Format) (r : Rect) (e : Entry) :
    (markDirty bp bw g r e).key = e.key ∧ (markDirty bp bw g r e).content = e.content ∧
      (markDirty bp bw g r e).valid = e.valid := by
  unfold markDirty
  split <;> exact ⟨rfl, rfl, rfl⟩

/-- A texel that shares a bit with a written pixel inside the arena is dirty from then on (44_texture_cache.md R345). -/
theorem mem_dirtySet_markDirty {q p : Nat × Nat} (hq : e.area.has q.1 q.2 = true) (hp : r.has p.1 p.2 = true)
    (hin : inArena g bp.toNat bw.toNat p = true) (hmeet : pixelMeets g bp.toNat bw.toNat e q p = true) :
    q ∈ dirtySet (markDirty bp bw g r e) := by
  rw [markDirty_of_shares (shares_iff.2 ⟨q, hq, p, hp, hin, hmeet⟩)]
  refine mem_dirtySet.2 ⟨hq, dirtyRecord e bp bw g r, by simp, ?_⟩
  unfold dirtyRecord
  split
  · rename_i hkey
    obtain ⟨rfl, rfl⟩ := hkey
    exact ⟨p, hp, hmeet⟩
  · exact ⟨q, hq, pixelMeets_self e q⟩

/-! ### `TCINVAL` -/

section
variable {psm : BitVec 6} {rect : RectArg} {s t : State}

theorem execTcinval_legal (hg : formatOf psm = some g) (hbw : bw ≠ 0) (hrect : (rectOf rect).nonempty)
    (hright : (rectOf rect).right ≤ 2048) (hbottom : (rectOf rect).bottom ≤ 2048) :
    execTcinval bp bw psm rect s =
      .next (State.succeeded { s with tc := s.tc.map (markDirty bp bw g (rectOf rect)) } .none) := by
  obtain ⟨hx, hy⟩ := hrect
  unfold execTcinval
  rw [hg]
  refine State.check_eq_go ?_
  rw [List.cons_append, firstFailure_cons, if_neg (by simpa using hbw), firstFailure_rectChecks, if_neg (by omega),
    if_neg (by omega), if_neg (by omega)]
  rfl

theorem execTcinval_ok (hg : formatOf psm = some g) (h : execTcinval bp bw psm rect s = .next t) (hok : t.status = 0) :
    t = State.succeeded { s with tc := s.tc.map (markDirty bp bw g (rectOf rect)) } .none := by
  unfold execTcinval at h
  rw [hg] at h
  rcases State.check_cases h with ⟨c, -, hc⟩ | ⟨-, hgo⟩
  · rw [Host.Outcome.next.inj hc] at hok
    exact absurd hok (cv_status_ne_zero c)
  · exact Host.Outcome.next.inj hgo

end

/-- Settles O39: `SHARES` is the common bit of the statement, and the record is `RECORD`. -/
theorem tcinvalRecordsTheWrite : Obligations.TcinvalRecordsTheWrite := by
  intro bp bw psm rect s g r hg hbw hx hy hright hbottom
  refine ⟨_, execTcinval_legal hg hbw ⟨hx, hy⟩ hright hbottom, List.length_map _, fun k e he => ?_⟩
  have hmarked : (s.tc.map (markDirty bp bw g r))[k]? = some (markDirty bp bw g r e) := by
    rw [List.getElem?_map, he, Option.map_some]
  refine ⟨fun ⟨x, y, x', y', n, hr, hin, harea, hn, hn'⟩ => ?_, fun hnot => ?_⟩
  · refine hmarked.trans (congrArg some (markDirty_of_shares (shares_iff.2 ?_)))
    exact ⟨(x', y'), harea, (x, y), hr, (inArena_iff_blockAddr ..).2 hin, footsMeet_iff.2 ⟨n, hn, hn'⟩⟩
  · refine hmarked.trans (congrArg some (markDirty_of_not_shares fun hshares => hnot ?_))
    obtain ⟨q, harea, p, hr, hin, hmeet⟩ := shares_iff.1 hshares
    obtain ⟨n, hn, hn'⟩ := footsMeet_iff.1 hmeet
    exact ⟨p.1, p.2, q.1, q.2, n, hr, (inArena_iff_blockAddr ..).1 hin, harea, hn, hn'⟩

end

/-! ### The bounding box -/

/-- The rectangle holds every pixel of the list and each of its sides touches one. -/
structure TightBox (ps : List (Nat × Nat)) (r : Rect) : Prop where
  has : ∀ p ∈ ps, r.has p.1 p.2 = true
  left : ∃ p ∈ ps, p.1 = r.left
  top : ∃ p ∈ ps, p.2 = r.top
  right : ∃ p ∈ ps, p.1 + 1 = r.right
  bottom : ∃ p ∈ ps, p.2 + 1 = r.bottom

theorem TightBox.singleton (p : Nat × Nat) : TightBox [p] ⟨p.1, p.2, p.1 + 1, p.2 + 1⟩ where
  has := by simp [Rect.has_iff]
  left := ⟨p, by simp, rfl⟩
  top := ⟨p, by simp, rfl⟩
  right := ⟨p, by simp, rfl⟩
  bottom := ⟨p, by simp, rfl⟩

/-- A least or greatest of two values is one that a pixel of the longer list has. -/
theorem exists_mem_cons {α : Type} {ps : List α} {p : α} {v : α → Nat} {a c : Nat} (h : ∃ q ∈ ps, v q = a)
    (hc : c = a ∨ c = v p) : ∃ q ∈ p :: ps, v q = c := by
  obtain ⟨q, hq, rfl⟩ := h
  rcases hc with rfl | rfl
  · exact ⟨q, List.mem_cons_of_mem _ hq, rfl⟩
  · exact ⟨p, List.mem_cons_self, rfl⟩

theorem TightBox.cons {ps : List (Nat × Nat)} {r : Rect} (h : TightBox ps r) (p : Nat × Nat) :
    TightBox (p :: ps) (r.union ⟨p.1, p.2, p.1 + 1, p.2 + 1⟩) where
  has q hq := by
    rw [Rect.has_iff]
    simp only [Rect.union]
    rcases List.mem_cons.1 hq with rfl | hq
    · omega
    · have := (Rect.has_iff ..).1 (h.has q hq)
      omega
  left := exists_mem_cons h.left (min_choice _ _)
  top := exists_mem_cons h.top (min_choice _ _)
  right := exists_mem_cons h.right (max_choice _ _)
  bottom := exists_mem_cons h.bottom (max_choice _ _)

theorem boundingBox_eq_none {ps : List (Nat × Nat)} : boundingBox ps = none ↔ ps = [] := by
  cases ps with
  | nil => exact iff_of_true rfl rfl
  | cons p ps => cases h : boundingBox ps <;> simp [boundingBox, h]

theorem boundingBox_tight {ps : List (Nat × Nat)} {r : Rect} (h : boundingBox ps = some r) : TightBox ps r := by
  induction ps generalizing r with
  | nil => simp [boundingBox] at h
  | cons p ps ih =>
    cases hps : boundingBox ps with
    | none =>
      obtain rfl := boundingBox_eq_none.1 hps
      obtain rfl : _ = r := by simpa [boundingBox] using h
      exact TightBox.singleton p
    | some q =>
      obtain rfl : _ = r := by simpa [boundingBox, hps] using h
      exact (ih hps).cons p

/-! ### Rounding out to the block grid -/

theorem roundDown_le (n m : Nat) : roundDown n m ≤ n := Nat.div_mul_le_self n m

theorem lt_roundDown_add (n : Nat) {m : Nat} (hm : 0 < m) : n < roundDown n m + m := Nat.lt_div_mul_add hm

theorem le_roundUp (n : Nat) {m : Nat} (hm : 0 < m) : n ≤ roundUp n m := by
  have := Nat.lt_div_mul_add hm (a := n + m - 1)
  unfold roundUp ceilDiv
  omega

theorem roundUp_lt_add (n : Nat) {m : Nat} (hm : 0 < m) : roundUp n m < n + m := by
  have := Nat.div_mul_le_self (n + m - 1) m
  unfold roundUp ceilDiv
  omega

theorem roundDown_mod (n m : Nat) : roundDown n m % m = 0 := Nat.mul_mod_left _ _

theorem roundUp_mod (n m : Nat) : roundUp n m % m = 0 := Nat.mul_mod_left _ _

/-- A side rounded up lies on the grid unless it is cut. -/
theorem min_roundUp (n m w : Nat) : min (roundUp n m) w % m = 0 ∨ min (roundUp n m) w = w := by
  rcases min_choice (roundUp n m) w with h | h
  · exact .inl ((congrArg (· % m) h).trans (roundUp_mod n m))
  · exact .inr h

section
variable {e : Entry} {b d : Rect}

theorem blockOut_left : (blockOut e b).left = roundDown b.left (fmt e.key.psm).bkw := Nat.max_zero _
theorem blockOut_top : (blockOut e b).top = roundDown b.top (fmt e.key.psm).bkh := Nat.max_zero _
theorem blockOut_right : (blockOut e b).right = min (roundUp b.right (fmt e.key.psm).bkw) e.width := rfl
theorem blockOut_bottom : (blockOut e b).bottom = min (roundUp b.bottom (fmt e.key.psm).bkh) e.height := rfl

/-- Rounding out loses no texel of the entry. -/
theorem blockOut_has {x y : Nat} (hb : b.has x y = true) (harea : e.area.has x y = true) :
    (blockOut e b).has x y = true := by
  have hl := roundDown_le b.left (fmt e.key.psm).bkw
  have ht := roundDown_le b.top (fmt e.key.psm).bkh
  have hr := le_roundUp b.right (bkw_pos e.key.psm)
  have hbot := le_roundUp b.bottom (bkh_pos e.key.psm)
  rw [Rect.has_iff] at hb harea ⊢
  rw [blockOut_left, blockOut_top, blockOut_right, blockOut_bottom]
  simp only [Entry.area] at harea
  omega

/-! ### The dirty query -/

theorem dirtyQuery_eq_none : dirtyQuery e = none ↔ ∀ q, q ∉ dirtySet e := by
  rw [dirtyQuery, Option.map_eq_none_iff, boundingBox_eq_none, List.eq_nil_iff_forall_not_mem]

theorem dirtyQuery_eq_some (h : dirtyQuery e = some d) : ∃ b, TightBox (dirtySet e) b ∧ d = blockOut e b := by
  obtain ⟨b, hb, rfl⟩ := Option.map_eq_some_iff.1 h
  exact ⟨b, boundingBox_tight hb, rfl⟩

/-- A dirty texel lies in the dirty query. -/
theorem dirtyQuery_has (h : dirtyQuery e = some d) {q : Nat × Nat} (hq : q ∈ dirtySet e) : d.has q.1 q.2 = true := by
  obtain ⟨b, hbox, rfl⟩ := dirtyQuery_eq_some h
  exact blockOut_has (hbox.has q hq) (mem_dirtySet.1 hq).1

theorem exists_dirtyQuery_has {q : Nat × Nat} (hq : q ∈ dirtySet e) :
    ∃ d, dirtyQuery e = some d ∧ d.has q.1 q.2 = true := by
  obtain ⟨d, hd⟩ := Option.ne_none_iff_exists'.1 fun hnone => dirtyQuery_eq_none.1 hnone q hq
  exact ⟨d, hd, dirtyQuery_has hd hq⟩

/-- A clean entry has no dirty query. -/
theorem dirtyQuery_of_clean (h : e.dirty = []) : dirtyQuery e = none :=
  dirtyQuery_eq_none.2 fun q hq => by
    obtain ⟨-, d, hd, -⟩ := mem_dirtySet.1 hq
    simp [h] at hd

end

/-- Settles O41: the sides of the box touch dirty texels, and rounding out moves a side by less than a block. -/
theorem dirtyQueryIsTheBlockBox : Obligations.DirtyQueryIsTheBlockBox := by
  intro e meets bkw bkh
  have hmeets (x y : Nat) : meets x y ↔ (x, y) ∈ dirtySet e := by
    rw [mem_dirtySet]
    refine and_congr_right fun _ => exists_congr fun d => and_congr_right fun _ => ?_
    refine ⟨fun ⟨wx, wy, n, hp, hn⟩ => ⟨(wx, wy), hp, footsMeet_iff.2 ⟨n, hn⟩⟩, fun ⟨p, hp, hmeet⟩ => ?_⟩
    obtain ⟨n, hn⟩ := footsMeet_iff.1 hmeet
    exact ⟨p.1, p.2, n, hp, hn⟩
  have hw := bkw_pos e.key.psm
  have hh := bkh_pos e.key.psm
  refine ⟨?_, fun d hd => ?_⟩
  · simp only [dirtyQuery_eq_none, hmeets, Prod.forall]
  have hin (x y : Nat) (h : meets x y) : d.has x y = true := dirtyQuery_has hd ((hmeets x y).1 h)
  obtain ⟨b, hbox, rfl⟩ := dirtyQuery_eq_some hd
  obtain ⟨⟨xl, yl⟩, hlmem, hl⟩ := hbox.left
  obtain ⟨⟨xt, yt⟩, htmem, ht⟩ := hbox.top
  obtain ⟨⟨xr, yr⟩, hrmem, hr⟩ := hbox.right
  obtain ⟨⟨xb, yb⟩, hbmem, hb⟩ := hbox.bottom
  have hleft := lt_roundDown_add b.left hw
  have htop := lt_roundDown_add b.top hh
  have hright := roundUp_lt_add b.right hw
  have hbottom := roundUp_lt_add b.bottom hh
  rw [blockOut_left, blockOut_top, blockOut_right, blockOut_bottom]
  refine ⟨hin, Nat.min_le_right _ _, Nat.min_le_right _ _, roundDown_mod _ _, roundDown_mod _ _, ?_, ?_,
    ⟨xl, yl, (hmeets ..).2 hlmem, ?_⟩, ⟨xt, yt, (hmeets ..).2 htmem, ?_⟩, ⟨xr, yr, (hmeets ..).2 hrmem, ?_⟩,
    ⟨xb, yb, (hmeets ..).2 hbmem, ?_⟩⟩
  · exact min_roundUp _ _ _
  · exact min_roundUp _ _ _
  · exact hl ▸ hleft
  · exact ht ▸ htop
  · exact (Nat.min_le_left _ _).trans (by dsimp only at hr; omega)
  · exact (Nat.min_le_left _ _).trans (by dsimp only at hb; omega)

end Sys2Proof.Machine
end

section
/-! `TCFETCH` of a cached texture: what a miss and a hit decode, and what they keep (44_texture_cache.md R336 to R341,
R346). -/

namespace Sys2Proof.Machine

/-! ### Rows of texels -/

theorem texelAt_eq_getElem {rows : Pixels} {x y : Nat} (hy : y < rows.length) (hx : x < rows[y].length) :
    texelAt rows x y = rows[y][x] := by
  simp only [texelAt, List.getElem?_eq_getElem hy, Option.getD_some, List.getElem?_eq_getElem hx]

/-- Rows that fill a rectangle are the same when their texels are. -/
theorem rowsFill_ext {p q : Pixels} {r : Rect} (hp : rowsFill p r) (hq : rowsFill q r)
    (h : ∀ x y, r.has x y = true → texelAt p (x - r.left) (y - r.top) = texelAt q (x - r.left) (y - r.top)) : p = q := by
  obtain ⟨hplen, hprow⟩ := hp
  obtain ⟨hqlen, hqrow⟩ := hq
  refine List.ext_getElem (hplen.trans hqlen.symm) fun j hj hj' => ?_
  have hrow := hprow _ (List.getElem_mem hj)
  have hrow' := hqrow _ (List.getElem_mem hj')
  refine List.ext_getElem (hrow.trans hrow'.symm) fun i hi hi' => ?_
  have htexel := h (r.left + i) (r.top + j) ((Rect.has_iff ..).2 (by omega))
  rwa [Nat.add_sub_cancel_left, Nat.add_sub_cancel_left, texelAt_eq_getElem hj hi, texelAt_eq_getElem hj' hi'] at htexel

theorem Entry.rows_of_bitmap {e : Entry} {rows : Pixels} (h : e.content = .bitmap rows) : e.rows = rows := by
  simp only [Entry.rows, h]

/-! ### The required rectangle (44_texture_cache.md R338) -/

theorem clampRange_eq (m : BitVec 2) (lo hi size : Nat) :
    clampRange m lo hi size =
      if m = 2 ∧ lo ≤ hi ∧ lo < size then (lo, min (hi + 1) size)
      else if m = 3 ∧ hi < size then (hi, min ((lo ||| hi) + 1) size) else (0, size) := by
  have hm : m = 0 ∨ m = 1 ∨ m = 2 ∨ m = 3 := by
    revert m
    decide
  rcases hm with rfl | rfl | rfl | rfl <;> simp [clampRange]

section
variable {texd alphad clampd : Desc} {f : Format} {s t : State} {e : Entry} {k : Key}

theorem decodable_iff {ps : List (Nat × Nat)} :
    decodable f texd ps = true ↔
      ∀ p ∈ ps, blockAddr f p.1 p.2 (Texd.tbp0 texd).toNat (Texd.tbw texd).toNat < 16384 := by
  simp only [decodable, List.all_eq_true, ← inArena_iff_blockAddr]

/-! ### A miss -/

theorem fetchMiss_decodes {room : List Entry}
    (hdec : decodable f texd (requiredRect clampd (2 ^ k.tw.toNat) (2 ^ k.th.toNat)).pixels = true)
    (hroom : makeRoom s.tc = some room) :
    let e := newTexture k (requiredRect clampd (2 ^ k.tw.toNat) (2 ^ k.th.toNat)) (decodeTexel s f texd alphad)
    fetchMiss s k f texd alphad clampd = .next (State.succeeded { s with tc := room ++ [e] } e.output) := by
  unfold fetchMiss
  refine (if_pos hdec).trans ?_
  rw [hroom]
  rfl

theorem fetchMiss_oob
    (hdec : ¬decodable f texd (requiredRect clampd (2 ^ k.tw.toNat) (2 ^ k.th.toNat)).pixels = true) :
    fetchMiss s k f texd alphad clampd = .next (s.failed (.cv .oob)) := if_neg hdec

/-- Settles O35: the key and the required rectangle are those of the statement, and a miss decodes all of it. -/
theorem tcfetchMissMakesAnEntry : Obligations.TcfetchMissMakesAnEntry := by
  intro texd alphad clampd s f room key range u v req bp bw hf hbw htw hth hpal htarget htexture hroom
  have hkey : key = fetchKey f texd alphad clampd s.clut32 := by cases f <;> rfl
  have hreq : requiredRect clampd (2 ^ (Texd.tw texd).toNat) (2 ^ (Texd.th texd).toNat) = req := by
    simp only [requiredRect, clampRange_eq]
    rfl
  have hdecodable : decodable f texd req.pixels = true ↔
      ∀ x y, req.has x y = true → blockAddr f x y bp bw < 16384 := by
    rw [decodable_iff, Prod.forall]
    simp only [Rect.mem_pixels]
    rfl
  have hroom : makeRoom s.tc = some room := by
    rcases hroom with ⟨hlen, rfl⟩ | ⟨hfull, l, e, r, htc, rfl, he, hmax, hl⟩
    · exact makeRoom_of_room hlen
    · exact makeRoom_of_full hfull htc he hmax hl
  have hexec : exec (.tcfetch texd alphad clampd) s = fetchMiss s key f texd alphad clampd := by
    rw [hkey] at htexture ⊢
    exact execTcfetch_miss ⟨⟨hf, hbw, htw, hth⟩, hpal⟩ (find_isTarget_eq_none.2 htarget)
      (find_isTexture_eq_none.2 htexture)
  rw [hexec]
  refine ⟨fun hin => ?_, fun ⟨x, y, hxy, hout⟩ => fetchMiss_oob fun hdec => ?_⟩
  · refine ⟨req.tabulate (decodeTexel s f texd alphad), rowsFill_tabulate _ _, fun x y hxy => texelAt_tabulate hxy, ?_⟩
    rw [fetchMiss_decodes (hreq ▸ hdecodable.2 hin) hroom, ← hreq]
    rfl
  · exact absurd (hdecodable.1 (hreq ▸ hdec) x y hxy) (Nat.not_lt.2 hout)

/-! ### A hit -/

/-- A hit decodes what is new and what is dirty (44_texture_cache.md R336, R337). -/
theorem decodedByHit_iff {x y : Nat} :
    decodedByHit e x y = true ↔ e.valid.has x y = false ∨ ∃ d, dirtyQuery e = some d ∧ d.has x y = true := by
  rw [decodedByHit, refreshed]
  cases hq : dirtyQuery e <;> cases hv : e.valid.has x y <;> simp

theorem decodable_hit_iff {req : Rect} :
    decodable f texd ((extended e req).pixels.filter fun q => decodedByHit e q.1 q.2) = true ↔
      ∀ x y, (extended e req).has x y = true → decodedByHit e x y = true →
        blockAddr f x y (Texd.tbp0 texd).toNat (Texd.tbw texd).toNat < 16384 := by
  rw [decodable_iff, Prod.forall]
  simp only [List.mem_filter, Rect.mem_pixels, and_imp]

theorem fetchHit_decodes
    (hdec : decodable f texd ((extended e (requiredRect clampd e.width e.height)).pixels.filter
      fun q => decodedByHit e q.1 q.2) = true) :
    let e' := hitEntry e (requiredRect clampd e.width e.height) (decodeTexel s f texd alphad)
    fetchHit s e f texd alphad clampd =
      .next (State.succeeded { s with tc := updateFirst (isTexture e.key) (fun _ => e') s.tc } e'.output) :=
  if_pos hdec

theorem fetchHit_oob
    (hdec : ¬decodable f texd ((extended e (requiredRect clampd e.width e.height)).pixels.filter
      fun q => decodedByHit e q.1 q.2) = true) :
    fetchHit s e f texd alphad clampd = .next (s.failed (.cv .oob)) := if_neg hdec

/-- A texel after a hit: decoded, or kept. -/
theorem texelAt_hitEntry {req : Rect} {dec : Nat → Nat → Word32} {x y : Nat}
    (h : (extended e req).has x y = true) :
    texelAt (hitEntry e req dec).rows (x - (extended e req).left) (y - (extended e req).top) =
      if decodedByHit e x y = true then dec x y else e.texel x y := texelAt_tabulate h

section
variable {l r : List Entry} {rows : Pixels}

/-- The first texture of the requested key is hit, unless a render target stands in the way. -/
theorem execTcfetch_first_hit (h : FetchLegal f texd)
    (htarget : ∀ x ∈ s.tc, ¬(x.isRt = true ∧ x.key.bp = Texd.tbp0 texd ∧ x.key.psm = f)) (htc : s.tc = l ++ e :: r)
    (hl : ∀ x ∈ l, ¬(x.isRt = false ∧ x.key = e.key)) (hkey : e.key = fetchKey f texd alphad clampd s.clut32)
    (hrt : e.isRt = false) :
    execTcfetch texd alphad clampd s = fetchHit s e f texd alphad clampd := by
  refine execTcfetch_hit h (find_isTarget_eq_none.2 htarget) ?_
  rw [htc, ← hkey]
  exact find_first (fun x hx htex => hl x hx (isTexture_iff.1 htex)) (isTexture_iff.2 ⟨hrt, rfl⟩)

/-- The state that a hit leaves. -/
theorem fetchHit_next (htc : s.tc = l ++ e :: r) (hl : ∀ x ∈ l, ¬(x.isRt = false ∧ x.key = e.key))
    (hkey : e.key = fetchKey f texd alphad clampd s.clut32) (hrt : e.isRt = false)
    (hdec : ∀ x y, (extended e (requiredRect clampd e.width e.height)).has x y = true → decodedByHit e x y = true →
      blockAddr f x y (Texd.tbp0 texd).toNat (Texd.tbw texd).toNat < 16384) :
    let e' := hitEntry e (requiredRect clampd e.width e.height) (decodeTexel s f texd alphad)
    fetchHit s e f texd alphad clampd = .next
      { s with tc := l ++ e' :: r, status := 0x0000,
               result := .texture (4 * 2 ^ (Texd.tw texd).toNat) e'.rows e'.valid } := by
  intro e'
  have hwidth : e'.width = 2 ^ (Texd.tw texd).toNat := congrArg (fun k : Key => 2 ^ k.tw.toNat) hkey
  have hupdate : updateFirst (isTexture e.key) (fun _ => e') s.tc = l ++ e' :: r := by
    rw [htc]
    exact updateFirst_first _ (fun x hx htex => hl x hx (isTexture_iff.1 htex)) (isTexture_iff.2 ⟨hrt, rfl⟩)
  rw [fetchHit_decodes (decodable_hit_iff.2 hdec), hupdate, ← hwidth]
  rfl

/-- Settles O37: a hit decodes exactly the texels of the statement. -/
theorem tcfetchHitRefreshesAndExtends : Obligations.TcfetchHitRefreshesAndExtends := by
  intro texd alphad clampd s f l r e rows u bp bw decoded hf hbw htw hth hpal htarget htc hl hkey hrows
  have hrt := Entry.isRt_of_bitmap hrows
  have hdecoded (x y : Nat) : decodedByHit e x y = true ↔ decoded x y := decodedByHit_iff
  have hexec : exec (.tcfetch texd alphad clampd) s = fetchHit s e f texd alphad clampd :=
    execTcfetch_first_hit ⟨⟨hf, hbw, htw, hth⟩, hpal⟩ htarget htc hl hkey hrt
  rw [hexec]
  refine ⟨fun hin => ?_, fun ⟨x, y, hxy, hd, hout⟩ => fetchHit_oob fun hdec => ?_⟩
  · refine ⟨(hitEntry e (requiredRect clampd e.width e.height) (decodeTexel s f texd alphad)).rows,
      rowsFill_tabulate _ _, fun x y hxy => ?_,
      fetchHit_next htc hl hkey hrt fun x y hxy hd => hin x y hxy ((hdecoded x y).1 hd)⟩
    have htexel := texelAt_hitEntry (dec := decodeTexel s f texd alphad) hxy
    rw [← Entry.rows_of_bitmap hrows]
    exact ⟨fun hd => htexel.trans (if_pos ((hdecoded x y).2 hd)),
      fun hd => htexel.trans (if_neg fun hd' => hd ((hdecoded x y).1 hd'))⟩
  · exact absurd (decodable_hit_iff.1 hdec x y hxy ((hdecoded x y).2 hd)) (Nat.not_lt.2 hout)

theorem extended_of_within {req : Rect} (h : req.within e.valid) : extended e req = e.valid := by
  obtain ⟨hl, ht, hr, hb⟩ := h
  simp only [extended, Rect.union, Nat.min_eq_left hl, Nat.min_eq_left ht, Nat.max_eq_left hr, Nat.max_eq_left hb]

theorem not_decodedByHit_of_clean {x y : Nat} (hclean : e.dirty = []) (hvalid : e.valid.has x y = true) :
    ¬decodedByHit e x y = true := by
  simp [decodedByHit_iff, dirtyQuery_of_clean hclean, hvalid]

/-- A clean hit within the valid rectangle changes the age alone. -/
theorem hitEntry_of_clean {req : Rect} (dec : Nat → Nat → Word32) (hrows : e.content = .bitmap rows)
    (hfill : rowsFill rows e.valid) (hclean : e.dirty = []) (hreq : req.within e.valid) :
    hitEntry e req dec = { e with age := 0 } := by
  have hext := extended_of_within hreq
  have hsame : (hitEntry e req dec).rows = rows := by
    refine rowsFill_ext (r := e.valid) (hext ▸ rowsFill_tabulate _ _) hfill fun x y hxy => ?_
    have htexel := texelAt_hitEntry (dec := dec) (hext ▸ hxy)
    rw [hext, if_neg (not_decodedByHit_of_clean hclean hxy), Entry.texel, Entry.rows_of_bitmap hrows] at htexel
    exact htexel
  obtain ⟨key, content, valid, dirty, age, subs⟩ := e
  simp only at hrows hclean
  subst hrows hclean
  exact congrArg₂ (fun p v => (⟨key, .bitmap p, v, [], 0, subs⟩ : Entry)) hsame hext

/-- Settles O36: nothing is decoded, and the rows filled what was valid. -/
theorem tcfetchCleanHit : Obligations.TcfetchCleanHit := by
  intro texd alphad clampd s f l r e rows hf hbw htw hth hpal htarget htc hl hkey hrows hfill hclean hreq
  have hrt := Entry.isRt_of_bitmap hrows
  have hext := extended_of_within hreq
  have hexec : exec (.tcfetch texd alphad clampd) s = fetchHit s e f texd alphad clampd :=
    execTcfetch_first_hit ⟨⟨hf, hbw, htw, hth⟩, hpal⟩ htarget htc hl hkey hrt
  have hnext := fetchHit_next (texd := texd) (alphad := alphad) (clampd := clampd) htc hl hkey hrt fun x y hxy hd =>
    absurd hd (not_decodedByHit_of_clean hclean (hext ▸ hxy))
  rw [hexec, hnext, hitEntry_of_clean _ hrows hfill hclean hreq]
  exact congrArg (fun p => Host.Outcome.next
    { s with tc := l ++ { e with age := 0 } :: r, status := 0x0000,
             result := .texture (4 * 2 ^ (Texd.tw texd).toNat) p e.valid }) (Entry.rows_of_bitmap hrows)

end

/-! ### Coherency (44_texture_cache.md R346) -/

/-- `TCFETCH` that answers with a texture, where a texture of its key is cached and no render target stands in the way,
is a hit of that texture. -/
theorem fetch_of_texture_result {pitch : Nat} {rows : Pixels} {valid : Rect} (hf : formatOf (Texd.psm texd) = some f)
    (htarget : s.tc.find? (isTarget (Texd.tbp0 texd) f) = none)
    (he : s.tc.find? (isTexture (fetchKey f texd alphad clampd s.clut32)) = some e)
    (h : execTcfetch texd alphad clampd s = .next t) (hresult : t.result = .texture pitch rows valid) :
    let e' := hitEntry e (requiredRect clampd e.width e.height) (decodeTexel s f texd alphad)
    rows = e'.rows ∧ valid = e'.valid := by
  rcases execTcfetch_cases hf h with ⟨c, rfl⟩ | ⟨-, rfl⟩ | hlegal
  · cases hresult
  · cases hresult
  rw [execTcfetch_hit hlegal htarget he] at h
  rcases fetchHit_cases h with ⟨-, rfl⟩ | ⟨-, rfl⟩
  · cases hresult
  · obtain ⟨-, hrows, hvalid⟩ := Result.texture.inj hresult
    exact ⟨hrows.symm, hvalid.symm⟩

/-- A reported write changes neither what `TCFETCH` looks for nor where it finds it. -/
theorem find_map_markDirty {p : Entry → Bool} (bp : BasePtr) (bw : BufWidth) (g : Format) (r : Rect) (tc : List Entry)
    (hp : ∀ e, p (markDirty bp bw g r e) = p e) :
    (tc.map (markDirty bp bw g r)).find? p = (tc.find? p).map (markDirty bp bw g r) := by
  rw [List.find?_map]
  exact congrArg (fun q => (tc.find? q).map (markDirty bp bw g r)) (funext hp)

theorem Entry.ok.valid_area (h : e.ok) {x y : Nat} (hv : e.valid.has x y = true) : e.area.has x y = true := by
  obtain ⟨-, -, -, -, ⟨hl, ht, hr, hb⟩, -⟩ := h
  rw [Rect.has_iff] at hv ⊢
  omega

theorem extended_has {req : Rect} {x y : Nat} (h : e.valid.has x y = true) : (extended e req).has x y = true := by
  rw [Rect.has_iff] at h ⊢
  simp only [extended, Rect.union]
  omega

/-- Settles O40: a written texel is in the dirty set after the `TCINVAL`, so the hit decodes it. -/
theorem cacheCoherency : Obligations.CacheCoherency := by
  intro texd alphad clampd bp bw psm rect s t u e f g pitch' rows' valid' r hf hg htarget he hok hinval hstatus hfetch
    hresult x y hvalid now texel
  obtain rfl := execTcinval_ok hg hinval hstatus
  obtain ⟨hmem, hrt, hkey⟩ := find_isTexture he
  obtain ⟨hkey', hcontent', hvalid'⟩ := markDirty_keeps bp bw g r e
  have htexture : (s.tc.map (markDirty bp bw g r)).find? (isTexture (fetchKey f texd alphad clampd s.clut32)) =
      some (markDirty bp bw g r e) := by
    rw [find_map_markDirty, he, Option.map_some]
    intro e
    rw [Bool.eq_iff_iff, isTexture_iff_slot, isTexture_iff_slot, markDirty_slot]
  have htarget' : (s.tc.map (markDirty bp bw g r)).find? (isTarget (Texd.tbp0 texd) f) = none := by
    rw [find_map_markDirty, find_isTarget_eq_none.2 htarget, Option.map_none]
    intro e
    rw [Bool.eq_iff_iff, isTarget_iff_slot, isTarget_iff_slot, markDirty_slot]
  obtain ⟨hrows, hval⟩ := fetch_of_texture_result hf htarget' htexture hfetch hresult
  have htexel : texel = if decodedByHit (markDirty bp bw g r e) x y = true then now else e.texel x y := by
    have hkept : (markDirty bp bw g r e).texel x y = e.texel x y := by
      simp only [Entry.texel, Entry.rows, hcontent', hvalid']
    rw [← hkept]
    show texelAt rows' (x - valid'.left) (y - valid'.top) = _
    rw [hrows, hval]
    exact texelAt_hitEntry (extended_has (hvalid' ▸ hvalid))
  refine ⟨fun ⟨wx, wy, n, hw, hin, hn, hn'⟩ => htexel.trans (if_pos (decodedByHit_iff.2 (.inr ?_))), ?_, fun hout => ?_⟩
  · have hpsm : e.key.psm = f := congrArg Key.psm hkey
    exact exists_dirtyQuery_has (q := (x, y)) (mem_dirtySet_markDirty (hok.valid_area hvalid) (p := (wx, wy)) hw
      ((inArena_iff_blockAddr ..).2 hin) (footsMeet_iff.2 ⟨n, hn, hpsm ▸ hn'⟩))
  · rw [htexel]
    exact ite_eq_or_eq _ _ _
  · refine htexel.trans (if_neg fun hd => ?_)
    have hrt' : (markDirty bp bw g r e).isRt = false := by
      rw [Entry.isRt, hcontent']
      exact hrt
    rcases decodedByHit_iff.1 hd with hnot | ⟨d, hd, hxy⟩
    · rw [hvalid', hvalid] at hnot
      cases hnot
    · exact absurd hxy (by simp [hout _ (List.mem_map_of_mem hmem) hrt' hkey' d hd])

end

end Sys2Proof.Machine
end

section
/-! Sub-surfaces of render targets (44_texture_cache.md R349 to R353): the surface that `TCALIAS` answers with, and what
a new one holds. -/

namespace Sys2Proof.Machine

/-! ### Handles -/

/-- A new handle is none of the live ones (44_texture_cache.md R350; log entry 7). -/
theorem freshHandle_not_mem (live : List Nat) (seed : Nat) : freshHandle live seed ∉ live := by
  intro hmem
  unfold freshHandle at hmem
  split at hmem
  · have := List.le_sum_of_mem hmem
    omega
  · rename_i hnot
    exact hnot (List.contains_iff_mem.2 hmem)

/-- The live handles are the surfaces of the targets and of their sub-surfaces. -/
theorem not_mem_liveHandles {tc : List Entry} {n : Nat} (h : n ∉ liveHandles tc) :
    ∀ x ∈ tc, x.content ≠ .surface n ∧ ∀ u ∈ x.subs, u.surface ≠ n := by
  intro x hx
  refine ⟨fun hc => h (List.mem_flatMap.2 ⟨x, hx, ?_⟩), fun u hu hn => h (List.mem_flatMap.2 ⟨x, hx, ?_⟩)⟩
  · simp [Entry.isRt_of_surface hc, Entry.handle, hc]
  · exact List.mem_append_right _ (List.mem_map.2 ⟨u, hu, hn⟩)

/-! ### What `resolveAlias` answers (44_texture_cache.md R350) -/

/-- The request is of the target's own shape. -/
abbrev OwnShape (e : Entry) (texd : Desc) : Prop :=
  Texd.tbw texd = e.key.bw ∧ 2 ^ (Texd.tw texd).toNat = e.width ∧ 2 ^ (Texd.th texd).toNat = e.height

/-- The sub-surface is of the requested shape. -/
abbrev FitsShape (texd : Desc) (u : SubSurface) : Prop :=
  u.bw = Texd.tbw texd ∧ u.w = 2 ^ (Texd.tw texd).toNat ∧ u.h = 2 ^ (Texd.th texd).toNat

section
variable {s : State} {e : Entry} {texd : Desc}

theorem findSub_eq_none (h : ∀ u ∈ e.subs, ¬FitsShape texd u) :
    findSub e (Texd.tbw texd) (2 ^ (Texd.tw texd).toNat) (2 ^ (Texd.th texd).toNat) = none := by
  refine List.find?_eq_none.2 fun u hu hfit => h u hu ?_
  simpa [and_assoc] using hfit

theorem findSub_eq_some {sl sr : List SubSurface} {u : SubSurface} (hsubs : e.subs = sl ++ u :: sr)
    (hsl : ∀ x ∈ sl, ¬FitsShape texd x) (hu : FitsShape texd u) :
    findSub e (Texd.tbw texd) (2 ^ (Texd.tw texd).toNat) (2 ^ (Texd.th texd).toNat) = some u := by
  refine List.find?_eq_some_iff_append.2 ⟨by simpa [and_assoc] using hu, sl, sr, hsubs, fun x hx => ?_⟩
  simpa only [Bool.not_eq_true', ← Bool.not_eq_true, Bool.and_eq_true, decide_eq_true_eq, beq_iff_eq, and_assoc]
    using hsl x hx

theorem resolveAlias_own (h : OwnShape e texd) : resolveAlias s e texd = ⟨e.handle, e.subs, s.surf, s.free⟩ := if_pos h

theorem resolveAlias_kept {u : SubSurface} (hown : ¬OwnShape e texd)
    (hu : findSub e (Texd.tbw texd) (2 ^ (Texd.tw texd).toNat) (2 ^ (Texd.th texd).toNat) = some u) :
    resolveAlias s e texd = ⟨u.surface, e.subs, s.surf, s.free⟩ := by
  refine (if_neg hown).trans ?_
  rw [hu]

/-- The handle that a new sub-surface gets in this state. -/
def newHandle (s : State) : Nat := freshHandle (liveHandles s.tc) (Config.handleSeed s.free)

/-- What a new sub-surface of the requested shape holds (44_texture_cache.md R351, R353). -/
def newContents (s : State) (e : Entry) (texd : Desc) : Pixels :=
  subContents s e (Texd.tbw texd) (2 ^ (Texd.tw texd).toNat) (2 ^ (Texd.th texd).toNat)

theorem resolveAlias_new (hown : ¬OwnShape e texd) (hsubs : ∀ u ∈ e.subs, ¬FitsShape texd u) :
    resolveAlias s e texd =
      ⟨newHandle s,
        e.subs ++ [⟨Texd.tbw texd, 2 ^ (Texd.tw texd).toNat, 2 ^ (Texd.th texd).toNat, newHandle s⟩],
        surfSet s.surf (newHandle s, newContents s e texd), s.free + 1⟩ := by
  refine (if_neg hown).trans ?_
  rw [findSub_eq_none hsubs]
  rfl

theorem newContents_fill : rowsFill (newContents s e texd)
    ⟨0, 0, 2 ^ (Texd.tw texd).toNat, 2 ^ (Texd.th texd).toNat⟩ := by
  unfold newContents subContents
  dsimp only
  split <;> exact rowsFill_tabulate _ _

end

/-! ### `TCALIAS` and the target path of `TCFETCH` -/

section
variable {key texd : Desc} {f g : Format} {s : State} {l r : List Entry} {e : Entry}

theorem find_first_target {bp : BasePtr} (htc : s.tc = l ++ e :: r)
    (hl : ∀ x ∈ l, ¬(x.isRt = true ∧ x.key.bp = bp ∧ x.key.psm = f)) (hrt : e.isRt = true) (hbp : e.key.bp = bp)
    (hpsm : e.key.psm = f) : s.tc.find? (isTarget bp f) = some e := by
  rw [htc]
  exact find_first (fun x hx htarget => hl x hx (isTarget_iff.1 htarget)) (isTarget_iff.2 ⟨hrt, hbp, hpsm⟩)

theorem updateFirst_target {bp : BasePtr} (change : Entry → Entry) (htc : s.tc = l ++ e :: r)
    (hl : ∀ x ∈ l, ¬(x.isRt = true ∧ x.key.bp = bp ∧ x.key.psm = f)) (hrt : e.isRt = true) (hbp : e.key.bp = bp)
    (hpsm : e.key.psm = f) : updateFirst (isTarget bp f) change s.tc = l ++ change e :: r := by
  rw [htc]
  exact updateFirst_first _ (fun x hx htarget => hl x hx (isTarget_iff.1 htarget)) (isTarget_iff.2 ⟨hrt, hbp, hpsm⟩)

/-- `TCALIAS` of the first target of its base pointer and format. -/
theorem execTcalias_first (keyClampd : Desc) (hf : formatOf (Texd.psm key) = some f) (h : TexdLegal g texd)
    (htc : s.tc = l ++ e :: r) (hl : ∀ x ∈ l, ¬(x.isRt = true ∧ x.key.bp = Texd.tbp0 key ∧ x.key.psm = f))
    (hrt : e.isRt = true) (hbp : e.key.bp = Texd.tbp0 key) (hpsm : e.key.psm = f) :
    execTcalias key keyClampd texd s = .next
      { s with
        tc := l ++ { e with age := 0, subs := (resolveAlias s e texd).subs } :: r
        surf := (resolveAlias s e texd).surf
        free := (resolveAlias s e texd).free
        status := 0x0000
        result := .surface (resolveAlias s e texd).handle } := by
  rw [execTcalias_found keyClampd hf h (find_first_target htc hl hrt hbp hpsm),
    updateFirst_target _ htc hl hrt hbp hpsm]
  rfl

/-- Settles O38: both ask `resolveAlias` of the same target. -/
theorem tcfetchTakesTheTargetPath : Obligations.TcfetchTakesTheTargetPath := by
  intro texd alphad clampd keyClampd s f l r e hf hbw htw hth hpal htc hl hrt hbp hpsm
  have hlegal : FetchLegal f texd := ⟨⟨hf, hbw, htw, hth⟩, hpal⟩
  refine ⟨_, { e with age := 0, subs := (resolveAlias s e texd).subs }, _,
    execTcalias_first keyClampd hf hlegal.toTexdLegal htc hl hrt hbp hpsm, rfl, rfl, rfl, rfl, ?_⟩
  refine (execTcfetch_target hlegal (find_first_target htc hl hrt hbp hpsm)).trans ?_
  rw [fetchTarget, updateFirst_target _ htc hl hrt hbp hpsm]
  rfl

/-- Settles O42: the three cases of `resolveAlias`. -/
theorem tcaliasFindsOrMakesASurface : Obligations.TcaliasFindsOrMakesASurface := by
  intro key keyClampd texd s f g l r e h rbw rw rh own fits hf hg hbw htw hth htc hl hcontent hbp hpsm
  have hexec := execTcalias_first keyClampd hf ⟨hg, hbw, htw, hth⟩ htc hl (Entry.isRt_of_surface hcontent) hbp hpsm
  have hhandle : e.handle = h := by simp only [Entry.handle, hcontent]
  refine ⟨fun hown => ?_, fun hown sl u sr hsubs hsl hu => ?_, fun hown hsubs => ?_⟩
  · rw [resolveAlias_own hown, hhandle] at hexec
    exact hexec
  · rw [resolveAlias_kept hown (findSub_eq_some hsubs hsl hu)] at hexec
    exact hexec
  · rw [resolveAlias_new hown hsubs] at hexec
    exact ⟨newHandle s, newContents s e texd, not_mem_liveHandles (freshHandle_not_mem _ _), newContents_fill, hexec⟩

/-! ### What a new sub-surface holds (44_texture_cache.md R351 to R353) -/

theorem texelAt_tabulate_origin {v : Nat → Nat → Word32} {w h x y : Nat} (hx : x < w) (hy : y < h) :
    texelAt (Rect.tabulate ⟨0, 0, w, h⟩ v) x y = v x y :=
  texelAt_tabulate (r := ⟨0, 0, w, h⟩) ((Rect.has_iff ..).2 ⟨Nat.zero_le _, hx, Nat.zero_le _, hy⟩)

/-- What the host has told of a surface in full is what the core reads (44_texture_cache.md R352). -/
theorem surfContents_told {handle w h : Nat} {p : Pixels}
    (hp : s.surf.find? (fun x => x.1 == handle) = some (handle, p)) (hfill : rowsFill p ⟨0, 0, w, h⟩) : surfContents s handle w h = p := by
  refine rowsFill_ext (rowsFill_tabulate _ _) hfill fun x y hxy => ?_
  obtain ⟨hlen, hrow⟩ := hfill
  obtain ⟨-, hx, -, hy⟩ := (Rect.has_iff ..).1 hxy
  have hy' : y < p.length := hlen.symm ▸ hy
  have hx' : x < p[y].length := (hrow _ (List.getElem_mem hy')).symm ▸ hx
  refine (texelAt_tabulate hxy).trans (Eq.trans ?_ (texelAt_eq_getElem hy' hx').symm)
  simp only [hp, List.getElem?_eq_getElem hy', Option.bind_some, List.getElem?_eq_getElem hx', Option.getD_some]

theorem filter_eq_singleton {α : Type} [DecidableEq α] {ps : List α} {q : α} {p : α → Bool} (hnodup : ps.Nodup)
    (hq : q ∈ ps) (h : ∀ x ∈ ps, p x = true ↔ x = q) : ps.filter p = [q] := by
  rw [List.filter_congr (q := (· == q)) fun x hx => Bool.eq_iff_iff.2 ((h x hx).trans beq_iff_eq.symm),
    List.filter_beq, List.count_eq_one_of_mem hnodup hq, List.replicate_one]

theorem Rect.nodup_pixels (r : Rect) : r.pixels.Nodup := by
  rw [Rect.pixels_eq_map_range]
  refine List.Nodup.map_on (fun i hi j hj hij => ?_) List.nodup_range
  obtain ⟨hx, hy⟩ := Prod.mk.inj hij
  rw [← Nat.mod_add_div i (r.right - r.left), ← Nat.mod_add_div j (r.right - r.left)]
  rw [Nat.add_left_cancel hx, Nat.add_left_cancel hy]

/-- A texel that the one texel at its address supplies (44_texture_cache.md R351). -/
theorem texelAt_remap {n rbw rw rh x y x0 y0 : Nat} {p : Pixels} (hx : x < rw) (hy : y < rh)
    (harea : e.area.has x0 y0 = true)
    (huniq : ∀ x1 y1, e.area.has x1 y1 = true →
      (pixelAddr e.key.psm x1 y1 e.key.bp.toNat e.key.bw.toNat = pixelAddr e.key.psm x y e.key.bp.toNat rbw ↔
        x1 = x0 ∧ y1 = y0)) :
    texelAt (remap n p e rbw rw rh) x y = texelAt p x0 y0 := by
  refine (texelAt_tabulate_origin hx hy).trans ?_
  rw [filter_eq_singleton (q := (x0, y0)) e.area.nodup_pixels ((Rect.mem_pixels ..).2 harea) fun q hq => ?_]
  rw [beq_iff_eq, huniq q.1 q.2 ((Rect.mem_pixels ..).1 hq), Prod.ext_iff]

/-- The nearest texel (44_texture_cache.md R353). -/
theorem texelAt_resample {w h rw rh x y : Nat} {p : Pixels} (hnearest : Config.resampleFiltered = false) (hx : x < rw)
    (hy : y < rh) : texelAt (resample p w h rw rh) x y = texelAt p (x * w / rw) (y * h / rh) := by
  refine (texelAt_tabulate_origin hx hy).trans (if_neg ?_)
  rw [hnearest]
  exact Bool.false_ne_true

/-- `TCALIAS` that answers with a surface passed its checks. -/
theorem execTcalias_ok (keyClampd : Desc) {t : State} {n : Nat} (h : execTcalias key keyClampd texd s = .next t)
    (hresult : t.result = .surface n) : ∃ g, TexdLegal g texd := by
  unfold execTcalias at h
  split at h
  · rename_i g _ hg
    rcases State.check_cases h with ⟨c, -, hc⟩ | ⟨hpass, -⟩
    · rw [Host.Outcome.next.inj hc] at hresult
      cases hresult
    · obtain ⟨hbw, htw, hth⟩ := texdChecks_pass.1 hpass
      exact ⟨g, hg, hbw, htw, hth⟩
  · rw [← Host.Outcome.next.inj h] at hresult
    cases hresult

/-- Settles O43: the new contents are a remap or a resample of the surface that the host told. -/
theorem newSurfaceHoldsTheRemapOrResample : Obligations.NewSurfaceHoldsTheRemapOrResample := by
  intro key keyClampd texd s t f l r e h fresh p q rbw rw rh bp hf htc hl hcontent hbp hpsm hown hsubs hp hfill hexec
    hresult hq x y hx hy
  obtain ⟨g, hlegal⟩ := execTcalias_ok keyClampd hexec hresult
  have hnext := execTcalias_first keyClampd hf hlegal htc hl (Entry.isRt_of_surface hcontent) hbp hpsm
  rw [resolveAlias_new hown hsubs] at hnext
  obtain rfl := Host.Outcome.next.inj (hexec.symm.trans hnext)
  obtain rfl : newHandle s = fresh := Result.surface.inj hresult
  have hcontents : newContents s e texd = q := by
    simpa [surfSet] using hq
  have hhandle : e.handle = h := by simp only [Entry.handle, hcontent]
  have hsurf : surfContents s e.handle e.width e.height = p := surfContents_told (hhandle ▸ hp) hfill
  subst hpsm
  rw [← hcontents, newContents, subContents, hsurf]
  refine ⟨fun hbw x0 y0 harea huniq => ?_, fun hbw hnearest => ?_⟩
  · rw [if_pos hbw]
    exact texelAt_remap hx hy harea huniq
  · rw [if_neg (not_not.2 hbw)]
    exact texelAt_resample hnearest hx hy

end

end Sys2Proof.Machine
end

section
/-! `TCAGE` (44_texture_cache.md R356, R357). Entries may be equal, so the eviction is followed on entries paired with
their places in the cache: what is left is told by which pairs are. -/

namespace Sys2Proof.Machine

/-- A render target past the threshold, one that may be evicted (44_texture_cache.md R357). -/
def Entry.expired (e : Entry) : Bool := e.isRt && decide (Config.ageMax < e.age)

theorem Entry.expired_iff {e : Entry} : e.expired = true ↔ e.isRt = true ∧ Config.ageMax < e.age := by
  rw [Entry.expired, Bool.and_eq_true, decide_eq_true_eq]

section
variable {tc tc' : List Entry} (n : Nat)

theorem evictTargets_few (h : ¬Config.rtKeep < liveRt tc) : evictTargets (n + 1) tc = tc := if_neg h

theorem evictTargets_none (hmany : Config.rtKeep < liveRt tc) (h : removeOldest Entry.expired tc = none) :
    evictTargets (n + 1) tc = tc := by
  have h : removeOldest (fun e => e.isRt && decide (Config.ageMax < e.age)) tc = none := h
  simp only [evictTargets, if_pos hmany, h]

theorem evictTargets_some (hmany : Config.rtKeep < liveRt tc) (h : removeOldest Entry.expired tc = some tc') :
    evictTargets (n + 1) tc = evictTargets n tc' := by
  have h : removeOldest (fun e => e.isRt && decide (Config.ageMax < e.age)) tc = some tc' := h
  simp only [evictTargets, if_pos hmany, h]

end

/-- How many render targets are among the places. -/
def liveTargets (ps : List (Entry × Nat)) : Nat := ps.countP fun p => p.1.isRt

theorem liveRt_map_fst (ps : List (Entry × Nat)) : liveRt (ps.map Prod.fst) = liveTargets ps := by
  rw [liveRt, List.countP_map]
  rfl

/-- The entry `p` goes before `k`: it is older, or as old and earlier in the cache. -/
def GoesFirst (p k : Entry × Nat) : Prop := k.1.age < p.1.age ∨ k.1.age = p.1.age ∧ p.2 < k.2

/-- What the eviction of render targets makes of the places `ps` (44_texture_cache.md R357). -/
structure TargetsEvicted (ps qs : List (Entry × Nat)) : Prop where
  sublist : qs.Sublist ps
  keeps : ∀ p ∈ ps, p.1.expired = false → p ∈ qs
  atLeast : min Config.rtKeep (liveTargets ps) ≤ liveTargets qs
  atMost : ∀ p ∈ qs, p.1.expired = true → liveTargets qs ≤ Config.rtKeep
  oldestFirst : ∀ p ∈ ps, p ∉ qs → ∀ k ∈ qs, k.1.isRt = true → GoesFirst p k

/-- Nothing is evicted when few targets are alive or none is past the threshold. -/
theorem TargetsEvicted.refl {ps : List (Entry × Nat)}
    (h : ∀ p ∈ ps, p.1.expired = true → liveTargets ps ≤ Config.rtKeep) : TargetsEvicted ps ps where
  sublist := List.Sublist.refl _
  keeps _ hp _ := hp
  atLeast := Nat.min_le_right _ _
  atMost := h
  oldestFirst _ hp hnot := absurd hp hnot

section
variable {l r ps qs : List (Entry × Nat)} {x : Entry × Nat}

/-- Of places in order, with `x` the oldest target past the threshold and the earliest among equals: `x` goes before
every target that is left. -/
theorem goesFirst_of_oldest (hsorted : (l ++ x :: r).Pairwise fun p q => p.2 < q.2) (hx : x.1.expired = true)
    (hmax : ∀ p ∈ l ++ x :: r, p.1.expired = true → p.1.age ≤ x.1.age)
    (hl : ∀ p ∈ l, p.1.expired = true → p.1.age < x.1.age) :
    ∀ k ∈ l ++ r, k.1.isRt = true → GoesFirst x k := by
  intro k hk hrt
  have hafter : ∀ q ∈ r, x.2 < q.2 := (List.pairwise_cons.1 (List.pairwise_append.1 hsorted).2.1).1
  by_cases hexp : k.1.expired = true
  · rcases List.mem_append.1 hk with hk | hk
    · exact .inl (hl k hk hexp)
    · exact (hmax k (by simp [hk]) hexp).lt_or_eq.imp_right fun heq => ⟨heq, hafter k hk⟩
  · have hyoung : ¬Config.ageMax < k.1.age := fun hage => hexp (Entry.expired_iff.2 ⟨hrt, hage⟩)
    exact .inl ((Nat.not_lt.1 hyoung).trans_lt (Entry.expired_iff.1 hx).2)

/-- One target goes first, then what the rest of the eviction does. -/
theorem TargetsEvicted.remove (hsorted : (l ++ x :: r).Pairwise fun p q => p.2 < q.2)
    (hmany : Config.rtKeep < liveTargets (l ++ x :: r)) (hx : x.1.expired = true)
    (hmax : ∀ p ∈ l ++ x :: r, p.1.expired = true → p.1.age ≤ x.1.age)
    (hl : ∀ p ∈ l, p.1.expired = true → p.1.age < x.1.age) (h : TargetsEvicted (l ++ r) qs) :
    TargetsEvicted (l ++ x :: r) qs := by
  have hmem (p : Entry × Nat) (hp : p ∈ l ++ x :: r) (hne : p ≠ x) : p ∈ l ++ r := by
    rcases List.mem_append.1 hp with hp | hp
    · exact List.mem_append_left _ hp
    · exact List.mem_append_right _ ((List.mem_cons.1 hp).resolve_left hne)
  have hcount : liveTargets (l ++ x :: r) = liveTargets (l ++ r) + 1 := by
    simp only [liveTargets, List.countP_append, List.countP_cons, (Entry.expired_iff.1 hx).1, if_true]
    omega
  refine ⟨h.sublist.trans (List.Sublist.append_left (List.sublist_cons_self _ _) _), fun p hp hexp => ?_, ?_, h.atMost,
    fun p hp hnot => ?_⟩
  · refine h.keeps p (hmem p hp fun heq => ?_) hexp
    rw [heq, hx] at hexp
    cases hexp
  · have := h.atLeast
    omega
  · by_cases heq : p = x
    · subst heq
      exact fun k hk => goesFirst_of_oldest hsorted hx hmax hl k (h.sublist.subset hk)
    · exact h.oldestFirst p (hmem p hp heq) hnot

/-- The entry removed from a list of places is of greatest age, the earliest among equals. -/
theorem removeOldest_places {tc' : List Entry} (h : removeOldest Entry.expired (ps.map Prod.fst) = some tc') :
    ∃ l x r, ps = l ++ x :: r ∧ tc' = (l ++ r).map Prod.fst ∧ x.1.expired = true ∧
      (∀ p ∈ ps, p.1.expired = true → p.1.age ≤ x.1.age) ∧ ∀ p ∈ l, p.1.expired = true → p.1.age < x.1.age := by
  obtain ⟨l', e, r', hps, rfl, he, hmax, hl⟩ := removeOldest_some h
  obtain ⟨l, m, rfl, rfl, hm⟩ := List.map_eq_append_iff.1 hps
  obtain ⟨x, r, rfl, rfl, rfl⟩ := List.map_eq_cons_iff.1 hm
  exact ⟨l, x, r, rfl, (List.map_append ..).symm, he, fun p hp => hmax p.1 (List.mem_map_of_mem hp),
    fun p hp => hl p.1 (List.mem_map_of_mem hp)⟩

/-- The eviction of render targets, with fuel for every entry, does as R357 says. -/
theorem exists_targetsEvicted (n : Nat) (hn : ps.length ≤ n) (hsorted : ps.Pairwise fun p q => p.2 < q.2) :
    ∃ qs, qs.map Prod.fst = evictTargets n (ps.map Prod.fst) ∧ TargetsEvicted ps qs := by
  induction n generalizing ps with
  | zero =>
    obtain rfl := List.length_eq_zero_iff.1 (Nat.le_zero.1 hn)
    exact ⟨[], rfl, .refl (by simp)⟩
  | succ n ih =>
    by_cases hmany : Config.rtKeep < liveTargets ps
    · have hmany' : Config.rtKeep < liveRt (ps.map Prod.fst) := liveRt_map_fst ps ▸ hmany
      cases hremove : removeOldest Entry.expired (ps.map Prod.fst) with
      | none =>
        refine ⟨ps, (evictTargets_none n hmany' hremove).symm, .refl fun p hp hexp => absurd hexp ?_⟩
        simp [removeOldest_none.1 hremove p.1 (List.mem_map_of_mem hp)]
      | some tc' =>
        rw [evictTargets_some n hmany' hremove]
        obtain ⟨l, x, r, rfl, rfl, hx, hmax, hl⟩ := removeOldest_places hremove
        have hlen : (l ++ r).length ≤ n := by
          simp only [List.length_append, List.length_cons] at hn ⊢
          omega
        obtain ⟨qs, hqs, hevicted⟩ := ih hlen
          (hsorted.sublist (List.Sublist.append_left (List.sublist_cons_self _ _) _))
        exact ⟨qs, hqs, hevicted.remove hsorted hmany hx hmax hl⟩
    · exact ⟨ps, (evictTargets_few n (liveRt_map_fst ps ▸ hmany)).symm, .refl fun _ _ _ => Nat.not_lt.1 hmany⟩

end

/-! ### The statement -/

/-- The entry is a render target or a texture within the threshold: what is left of the textures' eviction. -/
def Entry.staysAsTexture (e : Entry) : Bool := e.isRt || decide (e.age ≤ Config.ageMax)

/-- The places that an eviction leaves, as a choice of places. -/
def keptPlace (qs : List (Entry × Nat)) (i : Nat) : Bool := qs.any fun q => q.2 == i

section
variable {aged : List Entry} {qs : List (Entry × Nat)} {e : Entry} {i : Nat}

theorem pairwise_zipIdx (tc : List Entry) : tc.zipIdx.Pairwise fun p q => p.2 < q.2 := by
  have h : (tc.zipIdx.map Prod.snd).Pairwise (· < ·) := by
    rw [List.zipIdx_map_snd]
    exact List.pairwise_lt_range'
  exact List.pairwise_map.1 h

/-- A place is kept with the entry that stands there. -/
theorem keptPlace_iff (hsub : qs.Sublist aged.zipIdx) (he : aged[i]? = some e) :
    keptPlace qs i = true ↔ (e, i) ∈ qs := by
  simp only [keptPlace, List.any_eq_true, beq_iff_eq]
  refine ⟨fun ⟨q, hq, hqi⟩ => ?_, fun h => ⟨_, h, rfl⟩⟩
  have hqe := List.mem_zipIdx_iff_getElem?.1 (hsub.subset hq)
  rw [hqi, he] at hqe
  obtain ⟨a, j⟩ := q
  obtain rfl : e = a := Option.some.inj hqe
  obtain rfl : j = i := hqi
  exact hq

theorem filter_keptPlace (hsub : qs.Sublist aged.zipIdx) : aged.zipIdx.filter (fun p => keptPlace qs p.2) = qs := by
  have hirrefl : Std.Irrefl fun p q : Entry × Nat => p.2 < q.2 := ⟨fun p => lt_irrefl p.2⟩
  have hantisymm : Std.Antisymm fun p q : Entry × Nat => p.2 < q.2 := ⟨fun _ _ h h' => absurd h' h.asymm⟩
  refine ((pairwise_zipIdx aged).filter _).eq_of_mem_iff ((pairwise_zipIdx aged).sublist hsub) fun p => ?_
  rw [List.mem_filter]
  refine ⟨fun ⟨hp, hkept⟩ => (keptPlace_iff hsub (List.mem_zipIdx_iff_getElem?.1 hp)).1 hkept, fun hp => ?_⟩
  have hzip := hsub.subset hp
  exact ⟨hzip, (keptPlace_iff hsub (List.mem_zipIdx_iff_getElem?.1 hzip)).2 hp⟩

end

/-- The places of an aged cache without those of the textures past the threshold. -/
def texturePlaces (aged : List Entry) : List (Entry × Nat) := aged.zipIdx.filter fun p => p.1.staysAsTexture

theorem texturePlaces_map_fst (aged : List Entry) : (texturePlaces aged).map Prod.fst = evictTextures aged := by
  rw [texturePlaces, ← List.zipIdx_map_fst 0 aged, evictTextures, List.filter_map, List.zipIdx_map_fst]
  rfl

/-- No render target goes with the textures. -/
theorem liveTargets_texturePlaces (aged : List Entry) : liveTargets (texturePlaces aged) = aged.countP Entry.isRt := by
  rw [← liveRt_map_fst, texturePlaces_map_fst, liveRt, evictTextures, List.countP_filter]
  exact List.countP_congr fun e _ => by cases e.isRt <;> simp

/-- The places that a frame boundary leaves. -/
theorem exists_placesLeft (tc : List Entry) :
    ∃ qs, qs.map Prod.fst = ageAndEvict tc ∧ TargetsEvicted (texturePlaces (tc.map Entry.older)) qs := by
  have hlen : (texturePlaces (tc.map Entry.older)).length ≤ tc.length :=
    (List.length_filter_le _ _).trans (by rw [List.length_zipIdx, List.length_map])
  rw [ageAndEvict, ← texturePlaces_map_fst]
  exact exists_targetsEvicted tc.length hlen ((pairwise_zipIdx _).filter _)

/-- Settles O44: the textures past the threshold go, and then the targets do as `TargetsEvicted` says. -/
theorem tcageAgesAndEvicts : Obligations.TcageAgesAndEvicts := by
  intro s aged targets
  obtain ⟨qs, hqs, hevicted⟩ := exists_placesLeft s.tc
  have hsub : qs.Sublist aged.zipIdx := hevicted.sublist.trans List.filter_sublist
  have hleft : (aged.zipIdx.filter fun p => keptPlace qs p.2).map Prod.fst = ageAndEvict s.tc := by
    rw [filter_keptPlace hsub, hqs]
  have hcount : targets (ageAndEvict s.tc) = liveTargets qs := hqs ▸ liveRt_map_fst qs
  have hatLeast := hevicted.atLeast
  rw [liveTargets_texturePlaces] at hatLeast
  refine ⟨keptPlace qs, ?_⟩
  intro tc'
  rw [show tc' = ageAndEvict s.tc from hleft, hcount]
  refine ⟨rfl, hatLeast, fun i e he => ?_⟩
  have hkept : keptPlace qs i = true ↔ (e, i) ∈ qs := keptPlace_iff hsub he
  have hplace (hstays : e.staysAsTexture = true) : (e, i) ∈ texturePlaces aged :=
    List.mem_filter.2 ⟨List.mem_zipIdx_iff_getElem?.2 he, hstays⟩
  have hwithin (hage : e.age ≤ Config.ageMax) : keptPlace qs i = true :=
    hkept.2 (hevicted.keeps _ (hplace (by simp [Entry.staysAsTexture, hage])) (by simp [Entry.expired, hage]))
  refine ⟨fun htex => ⟨fun hkeep => ?_, hwithin⟩, fun _ => hwithin, fun hrt hage hkeep => ?_,
    fun hrt hgone j k hk hkrt hkkeep => ?_⟩
  · have hstays := (List.mem_filter.1 (hevicted.sublist.subset (hkept.1 hkeep))).2
    simpa [Entry.staysAsTexture, htex] using hstays
  · exact hevicted.atMost _ (hkept.1 hkeep) (Entry.expired_iff.2 ⟨hrt, hage⟩)
  · have hnot : (e, i) ∉ qs := fun hmem => Bool.false_ne_true (hgone.symm.trans (hkept.2 hmem))
    exact hevicted.oldestFirst (e, i) (hplace (by simp [Entry.staysAsTexture, hrt])) hnot (k, j)
      ((keptPlace_iff hsub hk).1 hkkeep) hkrt

end Sys2Proof.Machine
end

section
/-! `NOP` and the raw views (45_host_ops.md R380 to R386). -/

namespace Sys2Proof.Machine

/-! ### The arena check of a view -/

section
variable {n : Nat} {idx : Word32} {s : State} {go : Answer State}

theorem check_viewChecks_of_lt (h : idx.toNat < Config.vmSize / n) : s.check (viewChecks n idx) go = go :=
  State.check_pass (viewChecks_pass.2 h)

theorem check_viewChecks_of_le (h : Config.vmSize / n ≤ idx.toNat) :
    s.check (viewChecks n idx) go = .next (s.failed (.cv .oob)) :=
  State.check_fail (by rw [viewChecks, firstFailure_cons, if_pos (decide_eq_true h)])

end

/-! ### Elements, low byte first (20_memory.md R64) -/

theorem Memory.read16_eq_or (m : Memory) (a : Nat) :
    Memory.read16 m a = (Memory.read m a).setWidth 16 ||| (Memory.read m (a + 1)).setWidth 16 <<< 8 := by
  rw [Memory.read16, append_eq_or, BitVec.or_comm]

theorem Memory.read32_eq_or (m : Memory) (a : Nat) :
    Memory.read32 m a = (Memory.read m a).setWidth 32 ||| (Memory.read m (a + 1)).setWidth 32 <<< 8 |||
      (Memory.read m (a + 2)).setWidth 32 <<< 16 ||| (Memory.read m (a + 3)).setWidth 32 <<< 24 := by
  have hassoc : Memory.read32 m a =
      Memory.read m (a + 3) ++ Memory.read m (a + 2) ++ Memory.read m (a + 1) ++ Memory.read m a := by
    rw [Memory.read32, Memory.read16, Memory.read16, BitVec.append_assoc']
    rfl
  have hreverse (b₃ b₂ b₁ b₀ : Word32) : b₃ ||| b₂ ||| b₁ ||| b₀ = b₀ ||| b₁ ||| b₂ ||| b₃ := by ac_rfl
  rw [hassoc, ← BitVec.setWidth_eq (Memory.read m (a + 3) ++ _ ++ _ ++ _)]
  exact BitVec.setWidth_append_append_append_eq_shiftLeft_setWidth_or.trans (hreverse _ _ _ _)

/-- `m'` holds the low `n` bytes of `v` from address `a` on, and every other byte of `m`. -/
structure StoresElement (m m' : Memory) (a n : Nat) (v : Word32) : Prop where
  byte : ∀ j < n, Memory.read m' (a + j) = (v >>> (8 * j)).setWidth 8
  other : ∀ b, b < a ∨ a + n ≤ b → Memory.read m' b = Memory.read m b

theorem write_storesElement (m : Memory) (a : Nat) (v : Word32) :
    StoresElement m (Memory.write m a (v.extractLsb' 0 8)) a 1 v where
  byte j hj := by
    obtain rfl : j = 0 := by omega
    rw [Memory.read_write, if_pos (Nat.add_zero a), BitVec.setWidth_ushiftRight_eq_extractLsb]
  other b hb := by rw [Memory.read_write, if_neg (by omega)]

theorem write16_storesElement (m : Memory) (a : Nat) (v : Word32) :
    StoresElement m (Memory.write16 m a (v.extractLsb' 0 16)) a 2 v where
  byte j hj := by
    rw [Memory.read_write16, BitVec.setWidth_ushiftRight_eq_extractLsb, extract_extract v (by decide),
      extract_extract v (by decide)]
    interval_cases j <;> simp
  other b hb := by rw [Memory.read_write16, if_neg (by omega), if_neg (by omega)]

theorem write32_storesElement (m : Memory) (a : Nat) (v : Word32) : StoresElement m (Memory.write32 m a v) a 4 v where
  byte j hj := by
    rw [Memory.read_write32, BitVec.setWidth_ushiftRight_eq_extractLsb]
    interval_cases j <;> simp
  other b hb := by
    rw [Memory.read_write32, if_neg (by omega), if_neg (by omega), if_neg (by omega), if_neg (by omega)]

/-! ### The statements -/

/-- Settles O50. -/
theorem nopSetsStatusOnly : Obligations.NopSetsStatusOnly := fun _ => rfl

/-- Settles O48: the arena check decides, and an element is the union of its bytes, shifted. -/
theorem viewReads : Obligations.ViewReads := by
  intro idx s k gives oob
  refine ⟨fun h => check_viewChecks_of_lt h, fun h => check_viewChecks_of_le h, fun h => ?_,
    fun h => check_viewChecks_of_le h, fun h => ?_, fun h => check_viewChecks_of_le h⟩
  · rw [← Memory.read16_eq_or]
    exact check_viewChecks_of_lt h
  · rw [← Memory.read32_eq_or]
    exact check_viewChecks_of_lt h

/-- Settles O49: the arena check decides, and the write of an element is a `StoresElement`. -/
theorem viewWrites : Obligations.ViewWrites := by
  intro idx v s k byte stores oob
  have stores_of {i : Instr} {n : Nat} {m' : Memory} (hexec : exec i s = .next (State.succeeded { s with mem := m' } .none))
      (h : StoresElement s.mem m' (n * k) n v) : stores i n := ⟨m', hexec, h.byte, h.other⟩
  refine ⟨fun h => stores_of (check_viewChecks_of_lt h) (by rw [Nat.one_mul]; exact write_storesElement _ _ _),
    fun h => check_viewChecks_of_le h,
    fun h => stores_of (check_viewChecks_of_lt h) (write16_storesElement _ _ _), fun h => check_viewChecks_of_le h,
    fun h => stores_of (check_viewChecks_of_lt h) (write32_storesElement _ _ _), fun h => check_viewChecks_of_le h⟩

end Sys2Proof.Machine
end

section
/-! `SAVE` and `RESTORE` (45_host_ops.md R387 to R389), through what it means that an image holds a state. -/

namespace Sys2Proof.Machine

/-! ### Bytes and 16-bit values of an image -/

/-- Byte strings of one length with the same bytes are equal. -/
theorem eq_of_byteAt_eq {l l' : List Byte} (hlen : l.length = l'.length) (h : ∀ i < l.length, byteAt l i = byteAt l' i) :
    l = l' :=
  eq_of_streamBit_eq hlen fun n hn => by rw [streamBit, streamBit, h _ (by omega)]

theorem byteAt_append_left {l : List Byte} (l' : List Byte) {i : Nat} (h : i < l.length) :
    byteAt (l ++ l') i = byteAt l i := List.getD_append _ _ _ _ h

theorem byteAt_append_right {l : List Byte} (l' : List Byte) {n : Nat} (h : l.length = n) (k : Nat) :
    byteAt (l ++ l') (n + k) = byteAt l' k := by
  rw [byteAt, List.getD_append_right _ _ _ _ (by omega), h, Nat.add_sub_cancel_left, byteAt]

theorem byteAt_take {l : List Byte} {i n : Nat} (h : i < n) : byteAt (l.take n) i = byteAt l i := by
  rw [byteAt, byteAt, List.getD_eq_getElem?_getD, List.getElem?_take_of_lt h, List.getD_eq_getElem?_getD]

/-- The two bytes of a 16-bit value, low byte first. -/
theorem byteAt_of_imageHalf {l : List Byte} {i : Nat} {v : BitVec 16} (h : imageHalf l i = v) :
    byteAt l i = v.setWidth 8 ∧ byteAt l (i + 1) = (v >>> 8).setWidth 8 := by
  rw [← h, BitVec.setWidth_ushiftRight_eq_extractLsb]
  exact ⟨BitVec.setWidth_append_eq_right.symm, BitVec.extractLsb'_append_eq_left.symm⟩

theorem toNat_imageHalf (l : List Byte) (i : Nat) :
    (imageHalf l i).toNat = (byteAt l i).toNat + 256 * (byteAt l (i + 1)).toNat := by
  rw [imageHalf, BitVec.toNat_append, ← Nat.shiftLeft_add_eq_or_of_lt (byteAt l i).isLt, Nat.shiftLeft_eq, Nat.add_comm,
    Nat.mul_comm]

theorem imageHalf_halfBytes (v : BitVec 16) : imageHalf (halfBytes v) 0 = v := BitVec.extractLsb'_append_extractLsb'

/-- A 16-bit value of a row of them. -/
theorem imageHalf_flatMap_halfBytes (l : List (BitVec 16)) {i : Nat} (h : i < l.length) :
    imageHalf (l.flatMap halfBytes) (2 * i) = l[i] := by
  have hbyte (j : Nat) (hj : j < 2) : byteAt (l.flatMap halfBytes) (2 * i + j) = byteAt (halfBytes l[i]) j := by
    rw [List.flatMap_def, byteAt_flatten (len := 2) (by simp [halfBytes]) (by decide),
      show (2 * i + j) / 2 = i by omega, show (2 * i + j) % 2 = j by omega,
      List.getD_eq_getElem _ _ (by rwa [List.length_map]), List.getElem_map]
  rw [imageHalf, hbyte 1 (by decide), ← Nat.add_zero (2 * i), hbyte 0 (by decide)]
  exact imageHalf_halfBytes l[i]

theorem length_flatMap_halfBytes (l : List (BitVec 16)) : (l.flatMap halfBytes).length = 2 * l.length := by
  rw [List.length_flatMap]
  simp [halfBytes, Nat.mul_comm]

/-! ### The image of a state (45_host_ops.md R387) -/

/-- The last five bytes of the image are the cursor's, its position 0 when it is inactive. -/
structure HoldsCursor (image : List Byte) (c : Cursor) : Prop where
  active : byteAt image cursorOffset = if c.active then 1 else 0
  x : imageHalf image (cursorOffset + 1) = if c.active then c.x.setWidth 16 else 0
  y : imageHalf image (cursorOffset + 3) = if c.active then c.y.setWidth 16 else 0

/-- The image holds GSMEM, `CLUT` and the cursor of the state, and no more. -/
structure HoldsState (image : List Byte) (s : State) : Prop where
  length : image.length = imageSize
  mem : ∀ a < Config.vmSize, byteAt image a = Memory.read s.mem a
  clut : ∀ (i : Nat) (h : i < Config.clutEntries), imageHalf image (Config.vmSize + 2 * i) = s.clut[i]
  cur : HoldsCursor image s.cur

/-- A state has one image. -/
theorem HoldsState.unique {l l' : List Byte} {s : State} (h : HoldsState l s) (h' : HoldsState l' s) : l = l' := by
  refine eq_of_byteAt_eq (h.length.trans h'.length.symm) fun i hi => ?_
  have hsize : i < 4195333 := hi.trans_eq h.length
  have hhalf {k : Nat} {v : BitVec 16} (hv : imageHalf l k = v) (hv' : imageHalf l' k = v) :
      byteAt l k = byteAt l' k ∧ byteAt l (k + 1) = byteAt l' (k + 1) := by
    obtain ⟨hlow, hhigh⟩ := byteAt_of_imageHalf hv
    obtain ⟨hlow', hhigh'⟩ := byteAt_of_imageHalf hv'
    exact ⟨hlow.trans hlow'.symm, hhigh.trans hhigh'.symm⟩
  have hclut (k : Nat) (hk : k < 512) := hhalf (h.clut k hk) (h'.clut k hk)
  obtain ⟨hx₀, hx₁⟩ := hhalf h.cur.x h'.cur.x
  obtain ⟨hy₀, hy₁⟩ := hhalf h.cur.y h'.cur.y
  by_cases hmem : i < 4194304
  · exact (h.mem i hmem).trans (h'.mem i hmem).symm
  by_cases hpal : i < 4195328
  · obtain ⟨k, hk | hk⟩ : ∃ k, i = 4194304 + 2 * k ∨ i = 4194304 + 2 * k + 1 := ⟨(i - 4194304) / 2, by omega⟩
    · exact hk ▸ (hclut k (by omega)).1
    · exact hk ▸ (hclut k (by omega)).2
  obtain rfl | rfl | rfl | rfl | rfl : i = 4195328 ∨ i = 4195329 ∨ i = 4195330 ∨ i = 4195331 ∨ i = 4195332 := by omega
  · exact h.cur.active.trans h'.cur.active.symm
  · exact hx₀
  · exact hx₁
  · exact hy₀
  · exact hy₁

/-- What `SAVE` makes holds the state. -/
theorem saveImage_holdsState (s : State) : HoldsState (saveImage s) s := by
  have hmem : ((List.range Config.vmSize).map (Memory.read s.mem)).length = Config.vmSize := by
    rw [List.length_map, List.length_range]
  have hclut : (s.clut.toList.flatMap halfBytes).length = 2 * Config.clutEntries := by
    rw [length_flatMap_halfBytes, Vector.length_toList]
  have hfront : ((List.range Config.vmSize).map (Memory.read s.mem) ++ s.clut.toList.flatMap halfBytes).length =
      cursorOffset := by
    rw [List.length_append, hmem, hclut]
    rfl
  have hcursor (k : Nat) : byteAt (saveImage s) (cursorOffset + k) = byteAt (cursorBytes s.cur) k :=
    byteAt_append_right _ hfront k
  have hbytes (k : Nat) (hk : k < 2 * Config.clutEntries) :
      byteAt (saveImage s) (Config.vmSize + k) = byteAt (s.clut.toList.flatMap halfBytes) k := by
    rw [saveImage, byteAt_append_left _ (hfront ▸ Nat.add_lt_add_left hk _), byteAt_append_right _ hmem]
  constructor
  case length =>
    rw [saveImage, List.length_append, hfront, imageSize, cursorBytes]
    split <;> rfl
  case mem =>
    intro a ha
    rw [saveImage, List.append_assoc, byteAt_append_left _ (by rwa [hmem]), byteAt,
      List.getD_eq_getElem _ _ (by rwa [hmem]), List.getElem_map, List.getElem_range]
  case clut =>
    intro i h
    rw [imageHalf, Nat.add_assoc, hbytes _ (by omega), hbytes _ (by omega)]
    exact (imageHalf_flatMap_halfBytes s.clut.toList (by rwa [Vector.length_toList])).trans (Vector.getElem_toList _)
  case cur =>
    constructor
    case active =>
      rw [← Nat.add_zero cursorOffset, hcursor, cursorBytes]
      split <;> rfl
    all_goals
      rw [imageHalf, Nat.add_assoc, hcursor, hcursor, cursorBytes]
      split
      · exact imageHalf_halfBytes _
      · rfl

/-! ### The restored state (45_host_ops.md R389) -/

/-- The image's cursor is refused: a flag that is none, a position past the limit, or a position of no transfer. -/
theorem badCursor_iff {image : List Byte} :
    badCursor image = true ↔
      1 < (byteAt image cursorOffset).toNat ∨ 2048 ≤ (imageHalf image (cursorOffset + 1)).toNat ∨
        2048 ≤ (imageHalf image (cursorOffset + 3)).toNat ∨
        (byteAt image cursorOffset).toNat = 0 ∧
          ((imageHalf image (cursorOffset + 1)).toNat ≠ 0 ∨ (imageHalf image (cursorOffset + 3)).toNat ≠ 0) := by
  simp only [badCursor, Bool.or_eq_true, Bool.and_eq_true, decide_eq_true_eq, or_assoc]
  rfl

theorem read_restored_mem (s : State) (image : List Byte) {a : Nat} (h : a < Config.vmSize) :
    Memory.read (restored s image).mem a = byteAt image a := by
  rw [restored_mem, Memory.read_ofBytes]
  exact byteAt_take h

theorem getElem_restored_clut (s : State) (image : List Byte) {i : Nat} (h : i < Config.clutEntries) :
    (restored s image).clut[i] = imageHalf image (Config.vmSize + 2 * i) := by
  simp only [restored_clut, Vector.getElem_ofFn]

section
variable {image : List Byte} {c : Cursor}

/-- An image whose cursor is not refused holds the cursor that `RESTORE` takes from it. -/
theorem restoredCursor_holdsCursor (h : badCursor image = false) : HoldsCursor image (restoredCursor image) := by
  have hbad := mt badCursor_iff.2 (Bool.eq_false_iff.1 h)
  have hnarrow {v : BitVec 16} (hv : v.toNat < 2048) : v = (v.setWidth 11).setWidth 16 :=
    BitVec.eq_of_toNat_eq (by simp; omega)
  by_cases hactive : byteAt image cursorOffset = 1
  · have hcursor : (restoredCursor image).active = true := decide_eq_true hactive
    constructor <;> rw [if_pos hcursor]
    · exact hactive
    · exact hnarrow (by omega)
    · exact hnarrow (by omega)
  · have hcursor : ¬(restoredCursor image).active = true := mt of_decide_eq_true hactive
    have hne : (byteAt image cursorOffset).toNat ≠ 1 := fun e => hactive (BitVec.eq_of_toNat_eq e)
    constructor <;> rw [if_neg hcursor]
    · exact (toNat_eq_zero_iff _).1 (by omega)
    · exact (toNat_eq_zero_iff _).1 (by omega)
    · exact (toNat_eq_zero_iff _).1 (by omega)

/-- The cursor of a state is none that `RESTORE` refuses. -/
theorem HoldsCursor.badCursor_eq_false (h : HoldsCursor image c) : badCursor image = false := by
  have hcoord (v : Coord) : (v.setWidth 16).toNat < 2048 :=
    (BitVec.toNat_setWidth_of_le (by decide)).trans_lt v.isLt
  have hx := hcoord c.x
  have hy := hcoord c.y
  rw [Bool.eq_false_iff, Ne, badCursor_iff, h.active, h.x, h.y]
  split
  · rw [show (1 : Byte).toNat = 1 from rfl]
    omega
  · decide

theorem HoldsCursor.restoredCursor_eq (h : HoldsCursor image c) (hc : c.ok) : restoredCursor image = c := by
  have hwide (v : Coord) : (v.setWidth 16).setWidth Config.coordBits = v := by
    rw [BitVec.setWidth_setWidth_of_le _ (by decide), BitVec.setWidth_eq]
  rw [restoredCursor, h.active, h.x, h.y]
  obtain ⟨x, y, active⟩ := c
  cases active with
  | true => exact congrArg₂ (Cursor.mk · · true) (hwide x) (hwide y)
  | false =>
    obtain ⟨rfl, rfl⟩ := hc rfl
    rfl

end

/-- A legal image holds what `RESTORE` makes of it. -/
theorem restored_holdsState (s : State) {image : List Byte} (hlen : image.length = imageSize)
    (hcur : badCursor image = false) : HoldsState image ((restored s image).succeeded .none) where
  length := hlen
  mem _ ha := (read_restored_mem s image ha).symm
  clut _ h := (getElem_restored_clut s image h).symm
  cur := restoredCursor_holdsCursor hcur

/-- Memories in canonical form that read alike inside the arena are equal. -/
theorem Memory.ext_read_arena {m n : Memory} (hm : Memory.wf m) (hn : Memory.wf n)
    (h : ∀ a < Config.vmSize, Memory.read m a = Memory.read n a) : m = n := by
  have houtside {k : Memory} (hk : Memory.wf k) {a : Nat} (ha : ¬a < Config.vmSize) : Memory.read k a = Config.memReset :=
    Memory.read_unlisted fun c hc hca => ha (hca ▸ (hk.2 c hc).1)
  refine Memory.ext_read hm hn fun a => ?_
  by_cases ha : a < Config.vmSize
  · exact h a ha
  · rw [houtside hm ha, houtside hn ha]

section
variable {image : List Byte} {s : State}

theorem HoldsState.restored_mem_eq (h : HoldsState image s) (t : State) (hm : Memory.wf s.mem) :
    (restored t image).mem = s.mem :=
  Memory.ext_read_arena (restored_mem t image ▸ Memory.wf_ofBytes (List.length_take_le _ _)) hm fun a ha =>
    (read_restored_mem t image ha).trans (h.mem a ha)

theorem HoldsState.restored_clut_eq (h : HoldsState image s) (t : State) : (restored t image).clut = s.clut :=
  Vector.ext fun i hi => (getElem_restored_clut t image hi).trans (h.clut i hi)

/-! ### How `RESTORE` ends -/

theorem exec_restore_legal (s : State) (hlen : image.length = imageSize) (hcur : badCursor image = false) :
    exec (.restore image) s = .next ((restored s image).succeeded .none) := if_pos ⟨hlen, hcur⟩

theorem exec_restore_refused (s : State) (h : image.length ≠ imageSize ∨ badCursor image = true) :
    exec (.restore image) s = .next (s.failed (.cv .badImage)) :=
  if_neg fun ⟨hlen, hcur⟩ => h.elim (· hlen) fun hbad => Bool.false_ne_true (hcur.symm.trans hbad)

theorem exec_restore_ok {u : State} (h : exec (.restore image) s = .next u) (hok : u.status = 0x0000) :
    image.length = imageSize ∧ badCursor image = false ∧ u = (restored s image).succeeded .none := by
  by_cases hlegal : image.length = imageSize ∧ badCursor image = false
  · exact ⟨hlegal.1, hlegal.2, Host.Outcome.next.inj (h.symm.trans (exec_restore_legal s hlegal.1 hlegal.2))⟩
  · have hfailed : u = s.failed (.cv .badImage) := Host.Outcome.next.inj (h.symm.trans (if_neg hlegal))
    subst hfailed
    exact absurd hok (cv_status_ne_zero .badImage)

end

/-! ### The statements -/

/-- Settles O53: what `SAVE` makes holds the state, `RESTORE` of an image that holds a state gives that state back, and
the one image of a restored state is the image it was restored from. -/
theorem saveAndRestoreAreInverse : Obligations.SaveAndRestoreAreInverse := by
  refine ⟨fun s hmem hcur => ?_, fun image s u hrestore hok => ?_⟩
  · have hsaved := saveImage_holdsState s
    refine ⟨_, saveImage s, _, rfl, rfl, exec_restore_legal _ hsaved.length hsaved.cur.badCursor_eq_false, rfl, ?_, ?_, ?_⟩
    · rw [State.succeeded_mem, hsaved.restored_mem_eq _ hmem]
    · rw [State.succeeded_clut, hsaved.restored_clut_eq]
    · rw [State.succeeded_cur, restored_cur, hsaved.cur.restoredCursor_eq hcur]
  · obtain ⟨hlen, hcur, rfl⟩ := exec_restore_ok hrestore hok
    have himage := (saveImage_holdsState _).unique (restored_holdsState s hlen hcur)
    exact ⟨_, rfl, congrArg Result.image himage⟩

/-- Settles O51: the parts of `HoldsState`, the 16-bit values byte by byte. -/
theorem saveReturnsTheImage : Obligations.SaveReturnsTheImage := by
  intro s
  have hsaved := saveImage_holdsState s
  have hcoord {i : Nat} {c : Coord} (h : imageHalf (saveImage s) i = if s.cur.active then c.setWidth 16 else 0) :
      byteAt (saveImage s) i = BitVec.ofNat 8 (if s.cur.active then c.toNat else 0) ∧
        byteAt (saveImage s) (i + 1) = BitVec.ofNat 8 ((if s.cur.active then c.toNat else 0) / 256) := by
    have hnum : (if s.cur.active then c.setWidth 16 else 0).toNat = if s.cur.active then c.toNat else 0 := by
      split
      · exact BitVec.toNat_setWidth_of_le (by decide)
      · rfl
    obtain ⟨hlow, hhigh⟩ := byteAt_of_imageHalf h
    rw [hlow, hhigh, ← hnum, BitVec.ofNat_toNat, ← Nat.shiftRight_eq_div_pow _ 8, ← BitVec.toNat_ushiftRight,
      BitVec.ofNat_toNat]
    exact ⟨rfl, rfl⟩
  obtain ⟨hx₀, hx₁⟩ := hcoord hsaved.cur.x
  obtain ⟨hy₀, hy₁⟩ := hcoord hsaved.cur.y
  exact ⟨saveImage s, rfl, hsaved.length, hsaved.mem, fun i h => byteAt_of_imageHalf (hsaved.clut i h), hsaved.cur.active,
    hx₀, hx₁, hy₀, hy₁⟩

/-- Settles O52: the parts of the restored state, with the 16-bit values of the image as numbers. -/
theorem restoreLoadsTheImage : Obligations.RestoreLoadsTheImage := by
  intro image s at16 a x y bad
  have hhalf (i : Nat) : (imageHalf image i).toNat = at16 i := toNat_imageHalf image i
  have hnum (i w : Nat) : (imageHalf image i).setWidth w = BitVec.ofNat w (at16 i) := by
    rw [← BitVec.ofNat_toNat, hhalf]
  have hbad : badCursor image = true ↔ bad := by
    rw [badCursor_iff, hhalf, hhalf]
    rfl
  have hcursor : restoredCursor image = ⟨BitVec.ofNat 11 x, BitVec.ofNat 11 y, decide (a = 1)⟩ := by
    rw [restoredCursor, hnum, hnum, decide_eq_decide.2 BitVec.toNat_inj.symm]
    rfl
  refine ⟨fun h => exec_restore_refused s (h.imp id hbad.2), fun hlen hlegal => ?_⟩
  have hexec := exec_restore_legal s hlen (Bool.eq_false_iff.2 (mt hbad.1 hlegal))
  refine ⟨(restored s image).mem, (restored s image).clut, (restored s image).clut32, ?_,
    fun b hb => read_restored_mem s image hb, fun i h => ?_⟩
  · rw [hexec, ← hcursor]
    rfl
  · rw [getElem_restored_clut s image h, ← hnum, BitVec.setWidth_eq]
    rfl

end Sys2Proof.Machine
end

section
/-! How instructions end (60_exceptions.md): always in a next state, with nothing changed but STATUS where they fail, with
OOB where the block of a pixel is none of GSMEM, and with EXHAUSTED only in a cache full of render targets. -/

namespace Sys2Proof.Machine

/-! ### All or nothing (60_exceptions.md R406) -/

/-- Every effect but a failure sets STATUS to OK. -/
theorem Effect.eq_of_status_ne_ok {s t : State} {i : Instr} (h : Effect s i t) (hfailed : t.status ≠ 0x0000) :
    t = { s with status := t.status, result := .none } := by
  cases h with
  | fails => rfl
  | _ => exact absurd rfl hfailed

/-- Settles O55: what changes more than STATUS and the result has succeeded. -/
theorem allOrNothing : Obligations.AllOrNothing := fun _ _ _ h => (exec_effect h).eq_of_status_ne_ok

/-! ### The arena check of a pixel operation (60_exceptions.md R405) -/

/-- An operation with the checks of a single pixel and a width that is not zero ends by the pixel's block. -/
theorem pixel_op_ends_by_block {f : Format} {x y : CoordArg} {bp : BasePtr} {bw : BufWidth} {i : Instr} {s t : State}
    (hbw : bw ≠ 0) (hexec : exec i s = s.check (pixelChecks f x y bp bw) (.next t)) (hok : t.status = 0x0000) :
    (16384 ≤ blockAddr f x.toNat y.toNat bp.toNat bw.toNat → exec i s = .next (s.failed (.cv .oob))) ∧
      (blockAddr f x.toNat y.toNat bp.toNat bw.toNat < 16384 → ∃ t, exec i s = .next t ∧ t.status = 0x0000) := by
  have harena := inArena_iff_blockAddr f x.toNat y.toNat bp.toNat bw.toNat
  refine ⟨fun hout => ?_, fun hin => ?_⟩
  · have hunit := mt (inArena_iff_unit ..).2 (mt harena.1 (Nat.not_lt.2 hout))
    exact hexec.trans (check_pixelChecks_oob hbw (Nat.lt_of_not_le hunit) _)
  · exact ⟨t, hexec.trans (State.check_pass (pixelChecks_pass.2 ⟨hbw, harena.2 hin⟩)), hok⟩

/-- Settles O10: the three operations have the same checks, and go on to succeed. -/
theorem arenaCheckIsTheBlockCheck : Obligations.ArenaCheckIsTheBlockCheck := by
  intro f x y bp bw v alphad s hbw
  simp only [List.forall_mem_cons]
  exact ⟨pixel_op_ends_by_block hbw (exec_rdpixOf ..) rfl, pixel_op_ends_by_block hbw (exec_wrpixOf ..) rfl,
    pixel_op_ends_by_block hbw (exec_rdtexOf ..) rfl, List.forall_mem_nil _⟩

/-! ### Answers that are a next state -/

/-- The answer is a next state, and one with STATUS = EXHAUSTED only where `p` holds. -/
def EndsNext (p : Prop) (a : Answer State) : Prop := ∃ t, a = .next t ∧ (t.status = 0x0300 → p)

section
variable {p : Prop} {f : Format} {texd alphad clampd : Desc} {s : State}

theorem EndsNext.answer (s : State) (r : Result) : EndsNext p (s.answer r) :=
  ⟨_, rfl, fun h => absurd h (by decide : Ending.ok.status ≠ 0x0300)⟩

theorem EndsNext.violation (s : State) (c : Cause) : EndsNext p (s.raise (.cv c)) := by
  refine ⟨_, rfl, fun h => absurd h ?_⟩
  show (Ending.cv c).status ≠ 0x0300
  cases c <;> decide

theorem EndsNext.refusal (s : State) : EndsNext p (s.raise .refused) :=
  ⟨_, rfl, fun h => absurd h (by decide : Ending.refused.status ≠ 0x0300)⟩

theorem EndsNext.exhausted (s : State) (hp : p) : EndsNext p (s.raise .exhausted) := ⟨_, rfl, fun _ => hp⟩

/-- Checks raise contract violations only. -/
theorem EndsNext.check {cs : List (Bool × Cause)} {go : Answer State} (h : EndsNext p go) : EndsNext p (s.check cs go) := by
  unfold State.check
  split
  · exact .violation _ _
  · exact h

/-! ### Addresses, transfers and the palette -/

theorem addressOp_endsNext (value : Nat → Nat → Nat → Nat → Nat) (x y : CoordArg) (bp : BasePtr) (bw : BufWidth) :
    EndsNext p (addressOp value x y bp bw s) := by
  unfold addressOp
  split
  · exact .violation _ _
  · exact .answer _ _

theorem swzinFrom_endsNext (d : Xferd) (src : List Byte) (start : Nat × Nat) :
    EndsNext p (swzinFrom f d src s start) := by
  unfold swzinFrom
  dsimp only
  split
  · exact .answer _ _
  · exact .violation _ _

theorem swzin_endsNext (d : Xferd) (resume : Bool) (src : List Byte) : EndsNext p (swzin f d resume src s) := by
  refine .check ?_
  split
  · exact .violation _ _
  · exact swzinFrom_endsNext _ _ _

theorem unswz_endsNext (rect : RectArg) (bp : BasePtr) (bw : BufWidth) (mode : BitVec 2) (pitch : Word32) :
    EndsNext p (unswz f rect bp bw mode alphad pitch s) := by
  refine .check ?_
  split
  · exact .violation _ _
  · exact .check (.answer _ _)

theorem execXfermm_endsNext (d : Xferd) : EndsNext p (execXfermm d s) := by
  refine .check ?_
  split
  · exact .check (.answer _ _)
  · exact .violation _ _

theorem execClutwr_endsNext (clutd : Desc) : EndsNext p (execClutwr texd clutd s) := by
  unfold execClutwr
  split
  · exact .violation _ _
  · split_ifs
    · exact .violation _ _
    · exact .answer _ _
    · exact .answer _ _
    · exact .violation _ _

theorem execClutrd32_endsNext : EndsNext p (execClutrd32 texd alphad s) := by
  unfold execClutrd32
  split
  · exact .violation _ _
  · exact .answer _ _

theorem execRestore_endsNext (image : List Byte) : EndsNext p (execRestore image s) := by
  unfold execRestore
  split
  · exact .answer _ _
  · exact .violation _ _

/-! ### The texture cache -/

theorem execTcinval_endsNext (bp : BasePtr) (bw : BufWidth) (psm : BitVec 6) (rect : RectArg) :
    EndsNext p (execTcinval bp bw psm rect s) := by
  unfold execTcinval
  split
  · exact .violation _ _
  · exact .check (.answer _ _)

theorem execTcalias_endsNext (key keyClampd : Desc) : EndsNext p (execTcalias key keyClampd texd s) := by
  unfold execTcalias
  split
  · refine .check ?_
    split
    · exact .violation _ _
    · exact .answer _ _
  · exact .violation _ _

theorem execTcdrop_endsNext (key keyClampd : Desc) (isRt : Bool) : EndsNext p (execTcdrop key keyClampd isRt s) := by
  unfold execTcdrop
  split
  · exact .violation _ _
  · exact .answer _ _

theorem fetchHit_endsNext (e : Entry) : EndsNext p (fetchHit s e f texd alphad clampd) := by
  unfold fetchHit
  dsimp only
  split
  · exact .answer _ _
  · exact .violation _ _

theorem fetchMiss_endsNext (k : Key) (hp : makeRoom s.tc = none → p) :
    EndsNext p (fetchMiss s k f texd alphad clampd) := by
  unfold fetchMiss
  dsimp only
  split
  · split
    · exact .exhausted _ (hp ‹_›)
    · exact .answer _ _
  · exact .violation _ _

theorem execTcfetch_endsNext (hp : makeRoom s.tc = none → p) : EndsNext p (execTcfetch texd alphad clampd s) := by
  unfold execTcfetch
  split
  · exact .violation _ _
  · refine .check ?_
    split
    · exact .refusal _
    · split
      · exact .answer _ _
      · split
        · exact fetchHit_endsNext _
        · exact fetchMiss_endsNext _ hp

theorem execTcrt_endsNext (handle : Nat) (hp : makeRoom s.tc = none → p) : EndsNext p (execTcrt texd handle s) := by
  unfold execTcrt
  split
  · exact .violation _ _
  · refine .check ?_
    split
    · exact .answer _ _
    · split
      · exact .exhausted _ (hp ‹_›)
      · exact .answer _ _

end

/-! ### Every instruction -/

/-- The two operations that put a new entry into the cache (44_texture_cache.md R339, R348). -/
def MakesEntry (i : Instr) : Prop :=
  (∃ texd alphad clampd, i = .tcfetch texd alphad clampd) ∨ ∃ texd handle, i = .tcrt texd handle

/-- Every instruction ends in a next state, with EXHAUSTED only where it makes an entry and there is no room for one. -/
theorem exec_endsNext (i : Instr) (s : State) : EndsNext (MakesEntry i ∧ makeRoom s.tc = none) (exec i s) := by
  induction i using instr_cases with
  | nop | exp16 | exp24 | clutinv | tcage | tcpurge | save => exact .answer _ _
  | vmrd8 | vmrd16 | vmrd32 | vmwr8 | vmwr16 | vmwr32 => exact .check (.answer _ _)
  | clutwr => exact execClutwr_endsNext _
  | clutrd32 => exact execClutrd32_endsNext
  | xfermm => exact execXfermm_endsNext _
  | tcfetch => exact execTcfetch_endsNext fun hroom => ⟨.inl ⟨_, _, _, rfl⟩, hroom⟩
  | tcinval => exact execTcinval_endsNext _ _ _ _
  | tcalias _ keyClampd => exact execTcalias_endsNext _ keyClampd
  | tcdrop => exact execTcdrop_endsNext _ _ _
  | tcrt => exact execTcrt_endsNext _ fun hroom => ⟨.inr ⟨_, _, rfl⟩, hroom⟩
  | restore => exact execRestore_endsNext _
  | paddr => exact exec_paddrOf .. ▸ addressOp_endsNext _ _ _ _ _
  | baddr => exact exec_baddrOf .. ▸ addressOp_endsNext _ _ _ _ _
  | pgaddr => exact exec_pgaddrOf .. ▸ addressOp_endsNext _ _ _ _ _
  | rdpix => exact exec_rdpixOf .. ▸ .check (.answer _ _)
  | wrpix => exact exec_wrpixOf .. ▸ .check (.answer _ _)
  | rdtex => exact exec_rdtexOf .. ▸ .check (.answer _ _)
  | swzin => exact exec_swzinOf .. ▸ swzin_endsNext _ _ _
  | unswz => exact exec_unswzOf .. ▸ unswz_endsNext _ _ _ _ _

/-- Settles O54: the step is idle, refuses a header, or runs an instruction. -/
theorem everyRequestIsAnswered : Obligations.EveryRequestIsAnswered := by
  have hexec (i : Instr) (s : State) : ∃ t, exec i s = .next t := by
    obtain ⟨t, ht, -⟩ := exec_endsNext i s
    exact ⟨t, ht⟩
  refine ⟨hexec, fun s => ?_⟩
  rcases hrequests : s.requests with _ | ⟨r, rest⟩
  · exact ⟨s, step_idle hrequests⟩
  · rcases hdecode : decode r with e | i
    · exact ⟨_, step_of_decode_error hrequests hdecode⟩
    · exact step_of_decode_ok hrequests hdecode ▸ hexec i (s.take r rest)

/-! ### No room (60_exceptions.md R403, 44_texture_cache.md R361) -/

section
variable {f : Format} {texd alphad clampd : Desc} {s : State}

theorem decodable_pixels_iff {r : Rect} :
    decodable f texd r.pixels = true ↔
      ∀ x y, r.has x y = true → blockAddr f x y (Texd.tbp0 texd).toNat (Texd.tbw texd).toNat < 16384 := by
  rw [decodable_iff, Prod.forall]
  simp only [Rect.mem_pixels]

theorem fetchMiss_exhausted {k : Key}
    (hdec : decodable f texd (requiredRect clampd (2 ^ k.tw.toNat) (2 ^ k.th.toNat)).pixels = true)
    (hroom : makeRoom s.tc = none) : fetchMiss s k f texd alphad clampd = .next (s.failed .exhausted) := by
  unfold fetchMiss
  refine (if_pos hdec).trans ?_
  rw [hroom]
  rfl

theorem execTcrt_exhausted (handle : Nat) (h : TexdLegal f texd) (he : ¬s.tc.any (isTarget (Texd.tbp0 texd) f) = true)
    (hroom : makeRoom s.tc = none) : execTcrt texd handle s = .next (s.failed .exhausted) := by
  unfold execTcrt
  rw [h.format]
  refine (State.check_eq_go h.checks).trans ((if_neg he).trans ?_)
  rw [hroom]
  rfl

end

/-- Settles O47: there is no room exactly in a full cache of targets, and in such a cache a `TCFETCH` finds no texture. -/
theorem onlyAFullCacheOfTargetsExhausts : Obligations.OnlyAFullCacheOfTargetsExhausts := by
  constructor
  · intro i s t h hstatus
    obtain ⟨t', ht', hexhausted⟩ := exec_endsNext i s
    obtain rfl : t' = t := Host.Outcome.next.inj (ht'.symm.trans h)
    obtain ⟨hmakes, hroom⟩ := hexhausted hstatus
    exact ⟨hmakes, makeRoom_none.1 hroom⟩
  · intro texd alphad clampd handle s f req block ends hf hbw htw hth hfull hrt hno
    have hlegal : TexdLegal f texd := ⟨hf, hbw, htw, hth⟩
    have hroom : makeRoom s.tc = none := makeRoom_none.2 ⟨hfull, hrt⟩
    have htarget : s.tc.find? (isTarget (Texd.tbp0 texd) f) = none :=
      find_isTarget_eq_none.2 fun e he ⟨_, hsame⟩ => hno e he hsame
    have htexture : s.tc.find? (isTexture (fetchKey f texd alphad clampd s.clut32)) = none :=
      find_isTexture_eq_none.2 fun e he ⟨htex, _⟩ => Bool.false_ne_true (htex.symm.trans (hrt e he))
    refine ⟨execTcrt_exhausted handle hlegal ?_ hroom, fun hpal => ?_⟩
    · simpa using htarget
    · have hmiss := execTcfetch_miss ⟨hlegal, hpal⟩ htarget htexture
      exact ⟨fun hin => hmiss.trans (fetchMiss_exhausted (decodable_pixels_iff.2 hin) hroom),
        fun ⟨x, y, hxy, hout⟩ => hmiss.trans (fetchMiss_oob fun hdec =>
          absurd (decodable_pixels_iff.1 hdec x y hxy) (Nat.not_lt.2 hout))⟩

end Sys2Proof.Machine
end
